-- ==== Sys2Proof/Word.lean ====
section
/-! DEFINITION. Word types of the bridge: bytes, beats, memory words, blocks and the numbers of its units. -/

namespace Sys2Proof

/-- A byte (00, Sizes). -/
abbrev Byte := BitVec 8

/-- A 16-bit quantity: a management address, a mirror sequence number, an epoch. -/
abbrev Half := BitVec 16

/-- A host beat or a 32-bit byte address (00, Sizes; Addresses and byte order). -/
abbrev Word32 := BitVec 32

/-- A memory word of 64 bits (00, Sizes). -/
abbrev Word64 := BitVec 64

/-- Up to eight memory words, byte j of the block in bits 8j+7 to 8j (Table 11-3). -/
abbrev Block := BitVec 512

/-- One mask bit per byte of a block (Table 11-3). -/
abbrev BlockMask := BitVec 64

/-- The bytes of one group, up to 24, byte j in bits 8j+7 to 8j (R4). -/
abbrev GroupData := BitVec 192

/-- W0 to W7. -/
abbrev WindowId := Fin 8

/-- G0 to G7. -/
abbrev LineId := Fin 8

/-- E0 to E255. -/
abbrev EntryId := Fin 256

/-- The slot of a group; a group has at most sixteen (Table 1-2). -/
abbrev SlotId := Fin 16

end Sys2Proof
end

