-- ==== Sys2Proof/Syntax.lean ====
section
/-! DEFINITION. The commands of the bridge: one constructor per row of spec/opcode_table.json. -/

namespace Sys2Proof

/-- One beat of a host WRITE request: 32 data bits and four byte strobes, strobe j for byte j (Table 8-1, Table 11-1). -/
structure WriteBeat where
  data : Word32
  strobes : BitVec 4
deriving DecidableEq, Repr

/-- A host request (Table 8-1): a READ of 1 to 16 beats, or a WRITE with its beats, at the byte address of beat 0. -/
inductive HostRequest where
  | read (addr : Word32) (beats : Nat)
  | write (addr : Word32) (beats : List WriteBeat)
deriving DecidableEq, Repr

/-- What the memory partner answers (R121): OK with the data words of a READ, or ERROR.
The words stand in ascending address order; a word the list does not give is as memory holds it (log entry 5). -/
inductive MemReply where
  | ok (data : List Word64)
  | error
deriving DecidableEq, Repr

/-- The writable fields of a window record (Table 2-1, Table 11-7). -/
inductive WinField where
  | hbase | mbase | pixels | format | round | fill | spare | tableMode | policy | partition | fillEntry | quiet
deriving DecidableEq, Repr

/-- The GLOBAL settings (Table 9-4). -/
inductive Setting where
  | prescale | gatherIdle | mirrorStall | memTimeout | enables
deriving DecidableEq, Repr

/-- The commands, in the order of spec/opcode_table.json. -/
inductive Instr where
  /-- DEVICE_RESET (R174): RESET is asserted. -/
  | deviceReset
  /-- HOST_REQUEST (R148): the host presents a request. -/
  | hostRequest (r : HostRequest)
  /-- REQUEST_HANDLING (R149): handling of the head request begins. -/
  | requestHandling
  /-- BEAT_HANDLE (R150): ingress handles the next beat. -/
  | beatHandle
  /-- PLACEMENT_RETRY (R47): a waiting write beat begins a fresh attempt. -/
  | placementRetry
  /-- RUN_ISSUE (R154): a run whose wait set is empty presents its pieces. -/
  | runIssue
  /-- HOST_RESPONSE (R157): the response of a finished request is issued. -/
  | hostResponse
  /-- ISSUE_GRANT (R125): the arbiter grants the issue slot. -/
  | issueGrant
  /-- MEMORY_RESPONSE (R122): the memory partner answers. -/
  | memoryResponse (r : MemReply)
  /-- MEMORY_TIMEOUT (R129): the head's age has reached the memory timeout. -/
  | memoryTimeout
  /-- IDLE_EXPIRY (R53): a line's idle timer has reached the interval. -/
  | idleExpiry (l : LineId)
  /-- MIRROR_WAIT_SATISFIED (R65): a line's mirror wait is satisfied. -/
  | mirrorWaitSatisfied (l : LineId)
  /-- DRAIN_COMPLETE (R35): a draining non-adaptive window has no line and no held beat. -/
  | drainComplete (w : WindowId)
  /-- RELEASE_PHASE2 (R36): a draining adaptive window has no line and no held beat. -/
  | releasePhase2
  /-- FILL_ANNOUNCE (R29): the engine enqueues the fill entry's message. -/
  | fillAnnounce
  /-- FILL_PHASE2 (R30): the fill's mirror wait is satisfied. -/
  | fillPhase2
  /-- TRANSMISSION_START (R104): the head message begins its transmission. -/
  | transmissionStart
  /-- MESSAGE_SENT (R104): the last bit of the head message is driven. -/
  | messageSent
  /-- RESYNC_ENQUEUE (R109): the resync generator takes a free place. -/
  | resyncEnqueue
  /-- CREDIT_EVENT (R105): a pulse on MCRD. -/
  | creditEvent
  /-- STALL_EXPIRY (R114): the stall timer has reached the interval. -/
  | stallExpiry
  /-- QUIET_EXPIRY (R136): a window's quiet timer has reached its interval. -/
  | quietExpiry (w : WindowId)
  /-- SCAN_START (R138): the scan unit starts a scan. -/
  | scanStart
  /-- SCAN_READING (R139): the scan's wait set is empty. -/
  | scanReading
  /-- FLUSH_ALL_COMPLETE (R169): the wait set of FLUSH_ALL is empty. -/
  | flushAllComplete
  /-- SOFT_RESET_COMPLETE (R172): the outstanding list is empty. -/
  | softResetComplete
  /-- ARM (R26), committed with its operand byte. -/
  | arm (operand : Byte)
  /-- DISARM (R34). -/
  | disarm (operand : Byte)
  /-- SCAN (R137). -/
  | scan (operand : Byte)
  /-- FLUSH_ALL (R60). -/
  | flushAll (operand : Byte)
  /-- MIRROR_ATTACH (R108). -/
  | mirrorAttach (operand : Byte)
  /-- MIRROR_DETACH (R115). -/
  | mirrorDetach (operand : Byte)
  /-- RECOUNT (R100). -/
  | recount (operand : Byte)
  /-- FAULT_POP (R177). -/
  | faultPop (operand : Byte)
  /-- RESULT_POP (R146). -/
  | resultPop (operand : Byte)
  /-- SOFT_RESET (R170). -/
  | softReset (operand : Byte)
  /-- WINDOW_FIELD_COMMIT (R19): the commit byte of a window-record field is written. -/
  | windowFieldCommit (w : WindowId) (f : WinField) (v : Byte)
  /-- ENTRY_COMMIT (R92): the flags byte of an entry is written. -/
  | entryCommit (e : EntryId) (v : Byte)
  /-- GLOBAL_WRITE (R166): a GLOBAL setting byte is written. -/
  | globalWrite (g : Setting) (v : Byte)
  /-- REGISTER_WRITE (R162): a management data byte is written at an address. -/
  | registerWrite (a : Half) (v : Byte)
  /-- READ_CAPTURE (R164): a management data byte is read from an address. -/
  | readCapture (a : Half)
  /-- VOID_TRANSACTION (R159): the kind byte is neither 3Ah nor 3Bh. -/
  | voidTransaction (kind : Byte)
  /-- TRANSACTION_END (R163): SCS rises. -/
  | transactionEnd
  /-- BOUNDARY (R161): a read data byte beyond the stream's region. -/
  | boundary (a : Half)
deriving DecidableEq, Repr

end Sys2Proof
end

