-- ==== Sys2Proof/Decode.lean ====
section
/-! DEFINITION. The words of the opcode table: this block's table gives no row any bits. -/

namespace Sys2Proof

/-- The command that a table word spells. No row of spec/opcode_table.json gives bits (98_reader.md counts 0 rows with
fields), so no word spells a command (log entry 24). -/
def decodeTableWord (_nbits _w : Nat) : Option Instr := none

end Sys2Proof
end

