-- ==== Sys2Proof/Config.lean ====
section
/-! DEFINITION. What the spec fixes for the device, and the free values: what the spec leaves open. -/

namespace Sys2Proof.Config

/-- Places of the ingress queue (R148). -/
def ingressPlaces : Nat := 4

/-- Places of the mirror queue (R104). -/
def mirrorPlaces : Nat := 16

/-- The largest credit count (R105). -/
def creditMax : Nat := 8

/-- Members of the outstanding list (R122). -/
def outstandingPlaces : Nat := 4

/-- Places of the fault queue (R176). -/
def faultPlaces : Nat := 8

/-- Places of the result queue (R146). -/
def resultPlaces : Nat := 4

/-- The largest count of an entry (R86). -/
def countMax : Nat := 67108863

/-- Bytes of one fill, release or scan access (R30, R37, R140). -/
def blockBytes : Nat := 64

/-- Ticks of a millisecond timer unit (00, Time). -/
def ticksPerMs : Nat := 1000

/-- Ticks of a quiet interval unit (R135). -/
def ticksPerQuietUnit : Nat := 100

/-- FREE VALUE: what the memory behind the link holds at an address before the bridge has written it (R2, R121; log entry 5).
No proof can see a value of it. -/
opaque powerUpByte : Nat → Byte

/-- FREE VALUE: whether a write that the bridge has given up on (a memory timeout, a device reset) is performed by the
memory partner after all (R68; log entry 6). -/
opaque lateWrite : Nat → Bool

/-- FREE VALUE: the address of a POSTED_WRITE_ERROR record whose request has no mask set (R120, R127; log entry 7). -/
opaque unmaskedAddress : Nat → Word32

end Sys2Proof.Config
end

