-- ==== Sys2Proof/Machine/State.lean ====
section
/-! DEFINITION. The state of the bridge: plain data, block by block, and its value after a device reset. -/

namespace Sys2Proof.Machine

/-- A colour (R, G, B) (00, Host pixel word). -/
structure Colour where
  r : Byte
  g : Byte
  b : Byte
deriving DecidableEq, Repr

/-- (0, 0, 0). -/
def Colour.black : Colour := { r := 0, g := 0, b := 0 }

/-- A stored value (R2): the fields of each format. -/
inductive Stored where
  | rgb24 (r g b : Byte)
  | rgb16 (r : BitVec 5) (g : BitVec 6) (b : BitVec 5)
  | rgb15 (key : Bool) (r g b : BitVec 5)
  | index8 (e : Byte)
  | index4 (i : BitVec 4)
deriving DecidableEq, Repr

/-! ### Window table -/

/-- Table 2-2. -/
inductive WindowState where
  | off | arming | armed | draining
deriving DecidableEq, Repr

/-- What set a pending flag (Table 7-1). -/
inductive Trigger where
  | command | quiet
deriving DecidableEq, Repr

/-- A quiet timer (R135): IDLE, or TIMING with its measured ticks. -/
inductive QuietTimer where
  | idle
  | timing (ticks : Nat)
deriving DecidableEq, Repr

/-- A window record (Table 2-1) with its state and the scan unit's per-window state (Table 7-1).
Writable fields hold the bytes last committed, whatever they are (R18, R182). -/
structure Window where
  hbase : Word32
  mbase : Word32
  pixels : BitVec 24
  format : Byte
  round : Byte
  fill : Byte
  spare : Byte
  tableMode : Byte
  policy : Byte
  partition : Byte
  fillEntry : Byte
  quiet : Half
  state : WindowState
  epoch : Half
  dirty : Bool
  pending : Bool
  trigger : Trigger
  timer : QuietTimer
deriving DecidableEq, Repr

/-- A window record after a device reset (R20, R147). -/
def Window.initial : Window :=
  { hbase := 0, mbase := 0, pixels := 0, format := 0, round := 0, fill := 0, spare := 0, tableMode := 0, policy := 0,
    partition := 0, fillEntry := 0, quiet := 0, state := .off, epoch := 0, dirty := false, pending := false,
    trigger := .command, timer := .idle }

/-- The phases of a fill (R29, R30): its announcement not yet enqueued, enqueued and awaited, and the writes. -/
inductive FillPhase where
  | announce
  | sending (seq : Half)
  | writing
deriving DecidableEq, Repr

/-- A fill in progress (R28 to R33): the next address to write, the address of the first failed write, and whether a
DISARM has aborted it. -/
structure Fill where
  window : WindowId
  phase : FillPhase
  next : Nat
  failed : Option Word32
  aborted : Bool
deriving DecidableEq, Repr

/-- A release in progress (R36 to R39): phase 2 reached, the next address to read, the release pointer, and the address
of the first failed read. -/
structure Release where
  window : WindowId
  reading : Bool
  next : Nat
  pointer : Nat
  failed : Option Word32
deriving DecidableEq, Repr

/-- The window engine (R40). -/
inductive Engine where
  | idle
  | filling (f : Fill)
  | releasing (r : Release)
deriving DecidableEq, Repr

/-! ### Gather buffer -/

/-- Table 3-1. -/
inductive LineState where
  | free | gathering | flushing
deriving DecidableEq, Repr

/-- The step of a flush in progress (Table 3-1). -/
inductive Phase where
  | readWait | mirrorWait | writeWait
deriving DecidableEq, Repr

/-- Table 3-3. -/
inductive FlushCause where
  | complete | evict | idle | overlap | disarm | scan | exhaust | flushAll
deriving DecidableEq, Repr

/-- Table 3-4. -/
inductive FlushKind where
  | full | merge | counted
deriving DecidableEq, Repr

/-- A gather line (Table 3-1), with the kind of its flush (R61), the group data its read brought (R63) and whether the
request of its phase has been issued (R62). -/
structure Line where
  state : LineState
  phase : Option Phase
  window : WindowId
  group : Nat
  slots : Vector (Option Stored) 16
  mark : Half
  idle : Nat
  cause : Option FlushCause
  oldIndices : List EntryId
  kind : Option FlushKind
  data : GroupData
  issued : Bool
deriving DecidableEq, Repr

/-- A line after a device reset, and after it becomes FREE (R42, R43; log entry 17). -/
def Line.blank : Line :=
  { state := .free, phase := none, window := 0, group := 0, slots := Vector.replicate 16 none, mark := 0, idle := 0,
    cause := none, oldIndices := [], kind := none, data := 0, issued := false }

/-- The gather buffer: the lines, the age list (R44), the flush order (R45), and the line whose request the flush engine
presents (R62). -/
structure Gather where
  lines : Vector Line 8
  age : List LineId
  order : List LineId
  present : Option LineId
deriving DecidableEq, Repr

/-! ### Colour table -/

/-- A colour table entry (Table 4-1). -/
structure Entry where
  colour : Colour
  pinned : Bool
  count : Nat
deriving DecidableEq, Repr

/-- The colour table (R73): entries, suspect flag (R98) and held-announcement list (R95). -/
structure ColourTable where
  entries : Vector Entry 256
  suspect : Bool
  held : List EntryId
deriving DecidableEq, Repr

/-! ### Mirror link -/

/-- Table 5-1. -/
inductive LinkState where
  | detached | resync | attached
deriving DecidableEq, Repr

/-- Table 5-3. -/
inductive MessageKind where
  | entry | resyncBegin | resyncEnd
deriving DecidableEq, Repr

/-- A mirror message (R102). -/
structure Message where
  kind : MessageKind
  seq : Half
  entry : EntryId
  colour : Colour
deriving DecidableEq, Repr

/-- How far the resync walk is (R109): an ENTRY message is next, RESYNC_END is next, or the walk is over. -/
inductive Walk where
  | entries | ending | over
deriving DecidableEq, Repr

/-- The mirror link: its state, queue (R104), a transmission in progress (MFR high), a place in reserve (R107), credits
(R105), the sequence counters (R103), the resync pointer and walk (R109), the stall timer (R113) and mirror-lost (R114). -/
structure Mirror where
  link : LinkState
  queue : List Message
  sending : Bool
  reserve : Bool
  credits : Nat
  enqueued : Half
  sent : Half
  pointer : EntryId
  walk : Walk
  stall : Nat
  lost : Bool
deriving DecidableEq, Repr

/-! ### Memory link -/

/-- A memory request (R120): kind, address, word count, data and byte masks of a WRITE. -/
structure MemRequest where
  write : Bool
  addr : Word32
  words : Nat
  data : Block
  mask : BlockMask
deriving DecidableEq, Repr

/-- The requester of an outstanding request (R122): the flush engine with its line, host ingress with the read concerned
(named by the first beat it serves) or a posted write, the window engine, the scan unit. -/
inductive Requester where
  | flushRead (l : LineId)
  | flushWrite (l : LineId)
  | hostGroup (id : Nat)
  | hostPiece (id : Nat)
  | posted
  | fill
  | release
  | scan
deriving DecidableEq, Repr

/-- A member of the outstanding list, with its age in ticks since its issue (R122, R128). -/
structure Outstanding where
  req : MemRequest
  by' : Requester
  age : Nat
deriving DecidableEq, Repr

/-- The memory link (R124): HALTED or RUNNING, and the outstanding list, head first. -/
structure MemLink where
  halted : Bool
  outstanding : List Outstanding
deriving DecidableEq, Repr

/-! ### Host link -/

/-- Causes of a faulted beat (Table 11-10). -/
inductive HostFault where
  | align | partialStrobes | notReady | guard | noEntry | exhausted | memory | reset
deriving DecidableEq, Repr

/-- A host response (Table 8-1): the cause of the first faulting beat, none for OK; the data of a READ, empty for a WRITE. -/
structure HostResponse where
  cause : Option HostFault
  data : List Word32
deriving DecidableEq, Repr

/-- What has become of a beat of the request being handled (Table 8-2): not done yet; its read named by `id` is presented or
issued; done, with its data for a read; or faulted. -/
inductive BeatResult where
  | todo
  | awaiting (id : Nat)
  | done (data : Word32)
  | fault (c : HostFault)
deriving DecidableEq, Repr

/-- What a held write beat waits for: a FLUSHING line of its group (R51), any FREE line (R52), mirror queue space (R82), or
the EXHAUST wait set (R59). -/
inductive HeldWait where
  | line (l : LineId)
  | anyLine
  | space
  | flushes (set : List LineId)
deriving DecidableEq, Repr

/-- A write beat being placed (R46): its number, window, group, slot and pixel word, whether its lookup is the retry (R85),
and what it waits for. -/
structure HeldBeat where
  beat : Nat
  window : WindowId
  group : Nat
  slot : SlotId
  word : Word32
  retry : Bool
  wait : HeldWait
deriving DecidableEq, Repr

/-- A piece of a passthrough run (R153): its first and last beat and its memory request. -/
structure Piece where
  first : Nat
  last : Nat
  req : MemRequest
deriving DecidableEq, Repr

/-- A passthrough run (R153, R154): kind, beats, its memory bytes from lo up to hi, the pieces not yet issued, its wait set,
and whether it presents. -/
structure Run where
  write : Bool
  first : Nat
  last : Nat
  lo : Nat
  hi : Nat
  pieces : List Piece
  wait : List LineId
  presenting : Bool
deriving DecidableEq, Repr

/-- What ingress is doing with the request it handles: ready for the next beat, holding a write beat, presenting the group
read named by `id`, or holding a run. -/
inductive Activity where
  | ready
  | placing (h : HeldBeat)
  | reading (id : Nat)
  | running (r : Run)
deriving DecidableEq, Repr

/-- How far a group read is (R70, R152). -/
inductive ReadStatus where
  | presented
  | outstanding
  | returned (data : GroupData)
  | failed
deriving DecidableEq, Repr

/-- A group read of the request being handled, named by the first beat it serves. -/
structure GroupRead where
  id : Nat
  window : WindowId
  group : Nat
  status : ReadStatus
deriving DecidableEq, Repr

/-- The handling of the head request (R149, R150): the next beat, one result per beat, what ingress is doing, and the group
reads made. -/
structure Handling where
  next : Nat
  results : List BeatResult
  activity : Activity
  reads : List GroupRead
deriving DecidableEq, Repr

/-- Host ingress (R148): whether the link takes requests, the ingress queue, the requests waiting on the link, and the
handling of the head. -/
structure HostSide where
  taking : Bool
  queue : List HostRequest
  waiting : List HostRequest
  handling : Option Handling
deriving DecidableEq, Repr

/-! ### Scan unit -/

/-- Table 7-2. -/
inductive ScanState where
  | idle | flushing | reading | aborting
deriving DecidableEq, Repr

/-- Table 7-4. -/
inductive ResultStatus where
  | clean | disturbed | aborted | memError
deriving DecidableEq, Repr

/-- A result record (Table 7-5). -/
structure ResultRecord where
  window : WindowId
  epoch : Half
  crc : Word32
  status : ResultStatus
  trigger : Trigger
deriving DecidableEq, Repr

/-- The scan unit (R138 to R146): its state, the scan's window, trigger, disturbed flag, CRC remainder, wait set, next
address to read and kept pixel bytes, and the result queue. The place reserved for the scan's record is held in FLUSHING and
READING (Table 7-2). -/
structure ScanUnit where
  state : ScanState
  window : WindowId
  trigger : Trigger
  disturbed : Bool
  crc : Word32
  wait : List LineId
  next : Nat
  kept : List Byte
  results : List ResultRecord
deriving DecidableEq, Repr

/-! ### Faults -/

/-- Table 10-1. -/
inductive FaultCause where
  | lostWrite | postedWriteError | memoryTimeout | strayResponse | mirrorStall | creditOverflow | fillFailed | releaseFailed
deriving DecidableEq, Repr

/-- A fault record (R175). -/
structure FaultRecord where
  cause : FaultCause
  window : Option WindowId
  addr : Option Word32
  entry : Option EntryId
  flush : Option FlushCause
deriving DecidableEq, Repr

/-- The fault queue and its overflow flag (R176). -/
structure FaultQueue where
  records : List FaultRecord
  overflow : Bool
deriving DecidableEq, Repr

/-! ### Management port -/

/-- Refusal reasons (Table 11-10). -/
inductive Reason where
  | busy | invalid | overlap | engineBusy | notArmed | inUse | unknown | unmapped | readOnly | boundary
deriving DecidableEq, Repr

/-- The GLOBAL settings (Table 9-4); enables: bit 0 F, bit 1 S, bit 2 M, bit 3 C. -/
structure Settings where
  prescale : Byte
  gatherIdle : Byte
  mirrorStall : Byte
  memTimeout : Byte
  enables : BitVec 4
deriving DecidableEq, Repr

/-- An action that is RUNNING (R168): FLUSH_ALL with its wait set (R60), or SOFT_RESET. -/
inductive Running where
  | flushAll (set : List LineId)
  | softReset
deriving DecidableEq, Repr

/-- The last outcome (R168). -/
inductive ActionOutcome where
  | none | accepted | refused
deriving DecidableEq, Repr

/-- The action status (R168): IDLE when nothing is running. -/
structure ActionStatus where
  running : Option Running
  outcome : ActionOutcome
  reason : Option Reason
  code : Byte
deriving DecidableEq, Repr

/-- The last-refusal record (R165). -/
structure LastRefusal where
  reason : Option Reason
  addr : Half
  count : Byte
deriving DecidableEq, Repr

/-- Table 9-2. -/
inductive Region where
  | id | global | action | actionStatus | status | windows | entries | counts | faultHead | resultHead
deriving DecidableEq, Repr

/-- A captured read-only item (R164): its address and its bytes, lowest first. -/
structure Capture where
  base : Half
  bytes : List Byte
deriving DecidableEq, Repr

/-- An open transaction (R159 to R164): its direction, the region of its stream (none: unmapped), the address of its next
data byte, whether its use of the space has ended, the staged bytes with their addresses, and the capture. -/
structure Stream where
  write : Bool
  region : Option Region
  next : Half
  ended : Bool
  staged : List (Half × Byte)
  capture : Option Capture
deriving DecidableEq, Repr

/-- The SPI transaction (R159): none, void, or open with a stream. -/
inductive Transaction where
  | none
  | void
  | data (t : Stream)
deriving DecidableEq, Repr

/-- The management port: settings, action status, last-refusal record and the transaction. -/
structure Port where
  settings : Settings
  action : ActionStatus
  refusal : LastRefusal
  txn : Transaction
deriving DecidableEq, Repr

/-! ### Timers -/

/-- The timers that the last tick found at or beyond their interval (log entry 21): every interval is read at the tick (R53,
R113, R128, R135), so an expiry needs the mark that the tick makes. -/
structure Ripe where
  idle : List LineId
  stall : Bool
  timeout : Bool
  quiet : List WindowId
deriving DecidableEq, Repr

/-- No timer has expired at the last tick. -/
def Ripe.none : Ripe := { idle := [], stall := false, timeout := false, quiet := [] }

/-! ### The whole bridge -/

/-- What the output pins have carried, oldest first (log entry 20): host responses, mirror messages sent, and the bytes that SDO
has carried in the open transaction from its byte 0 on; none while SCS is high, when SDO is not driven (R159). -/
structure Outputs where
  responses : List HostResponse
  messages : List Message
  sdo : Option (List Byte)
deriving DecidableEq, Repr

/-- The bytes that OK writes have put into the memory behind the link, in rising address order (R121; log entry 5). -/
abbrev Memory := List Host.Cell

/-- The bridge, the phase of the timebase and the timers its last tick found expired, what the outputs carried, the memory
its writes have made, the model's own free-value counter, and the commands that wait. -/
structure State where
  host : HostSide
  windows : Vector Window 8
  engine : Engine
  gather : Gather
  colour : ColourTable
  mirror : Mirror
  link : MemLink
  scan : ScanUnit
  faults : FaultQueue
  port : Port
  refLeft : Nat
  ripe : Ripe
  out : Outputs
  memory : Memory
  freeCount : Nat
  pending : List Instr
deriving DecidableEq, Repr

/-- Why the machine stops with a fault. No event of the spec stops the bridge, so nothing raises one: it has no constructor. -/
inductive Fault where
deriving DecidableEq, Repr

/-- Why a command has no meaning. -/
inductive Refusal where
  /-- Raised by exec's arm of a command whose meaning is not written; safe, since the model stops. No arm raises it. -/
  | notModelled (mnemonic : String)
deriving DecidableEq, Repr

/-- The state right after a device reset: R20, R40, R43, R74, R118, R132, R147, R148, R158, R165, R168, R174, R179 and
Table 9-4. refLeft, ripe, freeCount and the fields of an idle scan are the model's (log entries 4, 6, 17,
21). -/
def State.reset : State :=
  { host := { taking := true, queue := [], waiting := [], handling := none }
    windows := Vector.replicate 8 Window.initial
    engine := .idle
    gather := { lines := Vector.replicate 8 Line.blank, age := [], order := [], present := none }
    colour := { entries := Vector.replicate 256 { colour := Colour.black, pinned := false, count := 0 }, suspect := false, held := [] }
    mirror := { link := .detached, queue := [], sending := false, reserve := false, credits := 0, enqueued := 0, sent := 0,
                pointer := 0, walk := .over, stall := 0, lost := false }
    link := { halted := false, outstanding := [] }
    scan := { state := .idle, window := 0, trigger := .command, disturbed := false, crc := 0, wait := [], next := 0,
              kept := [], results := [] }
    faults := { records := [], overflow := false }
    port := { settings := { prescale := 24, gatherIdle := 16, mirrorStall := 20, memTimeout := 100, enables := 1 }
              action := { running := none, outcome := .none, reason := none, code := 0 }
              refusal := { reason := none, addr := 0, count := 0 }
              txn := .none }
    refLeft := 25
    ripe := Ripe.none
    out := { responses := [], messages := [], sdo := none }
    memory := []
    freeCount := 0
    pending := [] }

end Sys2Proof.Machine
end

