-- ==== Sys2Proof/Machine/Operands.lean ====
section
/-! DEFINITION. Pixels, packing groups and ranges (Chapter 1, Tables 1-2, 11-1, 11-2), and the record accessors. -/

namespace Sys2Proof.Machine

/-! ### Accessors: every read and write of a numbered record goes through these -/

def State.win (s : State) (w : WindowId) : Window := s.windows[w]

def State.setWin (s : State) (w : WindowId) (x : Window) : State := { s with windows := s.windows.set w x }

def State.line (s : State) (l : LineId) : Line := s.gather.lines[l]

def State.setLine (s : State) (l : LineId) (x : Line) : State :=
  { s with gather := { s.gather with lines := s.gather.lines.set l x } }

def ColourTable.entry (t : ColourTable) (e : EntryId) : Entry := t.entries[e]

def ColourTable.setEntry (t : ColourTable) (e : EntryId) (x : Entry) : ColourTable := { t with entries := t.entries.set e x }

def State.entry (s : State) (e : EntryId) : Entry := s.colour.entry e

/-- W0 to W7 in order. -/
def allWindows : List WindowId := List.finRange 8

/-- G0 to G7 in order. -/
def allLines : List LineId := List.finRange 8

/-- E0 to E255 in order. -/
def allEntries : List EntryId := List.finRange 256

/-- Slots 0 to 15 in order. -/
def allSlots : List SlotId := List.finRange 16

/-! ### Formats (Table 1-1, Table 1-2, Table 11-7) -/

/-- The five stored formats. -/
inductive Fmt where
  | p24 | p16 | p15 | i8 | i4
deriving DecidableEq, Repr

/-- Table 11-7: the codes of the format field. -/
def fmtOfCode (c : Byte) : Option Fmt :=
  match c.toNat with
  | 0 => some .p24
  | 1 => some .p16
  | 2 => some .p15
  | 3 => some .i8
  | 4 => some .i4
  | _ => none

/-- The format of a window. A window that is not OFF holds a defined code, by R21. -/
def Window.fmt (w : Window) : Fmt := (fmtOfCode w.format).getD .p24

/-- Pixels per group G (Table 1-2). -/
def Fmt.pixels : Fmt → Nat
  | .p24 => 8
  | .p16 => 4
  | .p15 => 4
  | .i8 => 8
  | .i4 => 16

/-- Group bytes (Table 1-2). -/
def Fmt.bytes : Fmt → Nat
  | .p24 => 24
  | _ => 8

/-- Width of a stored value in bits (Table 1-1). -/
def Fmt.width : Fmt → Nat
  | .p24 => 24
  | .p16 => 16
  | .p15 => 16
  | .i8 => 8
  | .i4 => 4

/-- Memory bytes per window (Table 1-2). -/
def Fmt.windowBytes (f : Fmt) (pixels : Nat) : Nat :=
  match f with
  | .p24 => 3 * pixels
  | .p16 => 2 * pixels
  | .p15 => 2 * pixels
  | .i8 => pixels
  | .i4 => pixels / 2

/-- The indexed formats (1.2). -/
def Fmt.indexed : Fmt → Bool
  | .i8 => true
  | .i4 => true
  | _ => false

/-- The round option is ROUND (Table 11-7). -/
def Window.rounds (w : Window) : Bool := w.round == 1

/-- The fill option is REPLICATE (Table 11-7). -/
def Window.replicates (w : Window) : Bool := w.fill == 1

/-- The exhaustion policy is FAULT (Table 11-7). -/
def Window.faultPolicy (w : Window) : Bool := w.policy == 1

/-- An adaptive window: indexed, table mode ADAPTIVE (2.1). -/
def Window.adaptive (w : Window) : Bool := (w.format == 3 || w.format == 4) && w.tableMode == 1

/-- The window is not OFF. -/
def Window.inUse (w : Window) : Bool := w.state != .off

/-! ### Ranges (R5); upper bounds are exclusive -/

def Window.hostLo (w : Window) : Nat := w.hbase.toNat

def Window.hostHi (w : Window) : Nat := w.hbase.toNat + 4 * w.pixels.toNat

def Window.memLo (w : Window) : Nat := w.mbase.toNat

def Window.memHi (w : Window) : Nat := w.mbase.toNat + w.fmt.windowBytes w.pixels.toNat

/-- Two ranges share at least one byte address (R26). -/
def overlaps (lo hi lo' hi' : Nat) : Bool := decide (max lo lo' < min hi hi')

/-- The host address lies in the host range (R24). -/
def Window.inHost (w : Window) (a : Nat) : Bool := decide (w.hostLo ≤ a) && decide (a < w.hostHi)

/-- Where group g lives in memory (R3). -/
def Window.groupAddr (w : Window) (g : Nat) : Nat := w.memLo + g * w.fmt.bytes

/-- The pixel number of a host address in the window's range (R3). -/
def Window.pixelOf (w : Window) (a : Nat) : Nat := (a - w.hostLo) / 4

/-- The group of a host address (R3). -/
def Window.groupOf (w : Window) (a : Nat) : Nat := w.pixelOf a / w.fmt.pixels

/-- The slot of a host address (R3). -/
def Window.slotOf (w : Window) (a : Nat) : SlotId := Fin.ofNat 16 (w.pixelOf a % w.fmt.pixels)

/-! ### Entry ranges (R75) -/

/-- The lowest entry of the range. -/
def Window.rangeLo (w : Window) : Nat :=
  match w.fmt with
  | .i4 => 16 * w.partition.toNat
  | _ => 0

/-- The entries of the range. -/
def Window.rangeLen (w : Window) : Nat :=
  match w.fmt with
  | .i4 => 16
  | .i8 => 256
  | _ => 0

/-- The entry lies in the window's range. -/
def Window.inRange (w : Window) (e : EntryId) : Bool := decide (w.rangeLo ≤ e.val) && decide (e.val < w.rangeLo + w.rangeLen)

/-- The window's range, in ascending order. -/
def Window.range (w : Window) : List EntryId := allEntries.filter w.inRange

/-- The ranges of two windows share an entry (R59). -/
def Window.rangesOverlap (w w' : Window) : Bool :=
  overlaps w.rangeLo (w.rangeLo + w.rangeLen) w'.rangeLo (w'.rangeLo + w'.rangeLen)

/-- The fill entry of an adaptive window (2.1, R89). -/
def Window.fillEntryId (w : Window) : EntryId :=
  match w.fmt with
  | .i4 => Fin.ofNat 256 (16 * w.partition.toNat + w.fillEntry.toNat)
  | _ => Fin.ofNat 256 w.fillEntry.toNat

/-- The entry a stored index of the window names (R75, R87). -/
def Window.entryOf (w : Window) : Stored → EntryId
  | .index8 e => Fin.ofNat 256 e.toNat
  | .index4 i => Fin.ofNat 256 (16 * w.partition.toNat + i.toNat)
  | _ => 0

/-- The stored index by which the window names an entry of its range (R16). -/
def Window.indexOf (w : Window) (e : EntryId) : Stored :=
  match w.fmt with
  | .i4 => .index4 (BitVec.ofNat 4 (e.val - 16 * w.partition.toNat))
  | _ => .index8 (BitVec.ofNat 8 e.val)

/-! ### The host pixel word (Table 11-1) -/

def pixelColour (word : Word32) : Colour :=
  { b := word.extractLsb' 0 8, g := word.extractLsb' 8 8, r := word.extractLsb' 16 8 }

def pixelSpare (word : Word32) : Byte := word.extractLsb' 24 8

def pixelWord (c : Colour) (k : Byte) : Word32 := k ++ c.r ++ c.g ++ c.b

/-! ### Narrowing and widening (R7, R8, R11, R12) -/

/-- An 8-bit channel narrowed to n bits: R8 under ROUND, R7 under TRUNCATE. -/
def narrow (round : Bool) (n : Nat) (v : Byte) : Nat :=
  if round then min ((v.toNat + 2 ^ (7 - n)) / 2 ^ (8 - n)) (2 ^ n - 1) else v.toNat / 2 ^ (8 - n)

/-- An n-bit channel widened to 8 bits: R12 under REPLICATE, R11 under ZERO. -/
def widen (replicate : Bool) (n : Nat) (c : Nat) : Byte :=
  BitVec.ofNat 8 (c * 2 ^ (8 - n) + if replicate then c / 2 ^ (2 * n - 8) else 0)

/-- The stored value of a pixel write to a channel-format window (R9, R10); none for an indexed window. -/
def Window.encode (w : Window) (word : Word32) : Option Stored :=
  let c := pixelColour word
  match w.fmt with
  | .p24 => some (.rgb24 c.r c.g c.b)
  | .p16 => some (.rgb16 (BitVec.ofNat 5 (narrow w.rounds 5 c.r)) (BitVec.ofNat 6 (narrow w.rounds 6 c.g))
      (BitVec.ofNat 5 (narrow w.rounds 5 c.b)))
  | .p15 => some (.rgb15 ((pixelSpare word).getLsbD 7) (BitVec.ofNat 5 (narrow w.rounds 5 c.r))
      (BitVec.ofNat 5 (narrow w.rounds 5 c.g)) (BitVec.ofNat 5 (narrow w.rounds 5 c.b)))
  | .i8 => none
  | .i4 => none

/-- The host pixel word of a stored value (R13, R14, R15), with the table's colours as they stand. -/
def Window.decode (w : Window) (t : ColourTable) : Stored → Word32
  | .rgb24 r g b => pixelWord { r := r, g := g, b := b } w.spare
  | .rgb16 r g b =>
    pixelWord { r := widen w.replicates 5 r.toNat, g := widen w.replicates 6 g.toNat, b := widen w.replicates 5 b.toNat } w.spare
  | .rgb15 key r g b =>
    pixelWord { r := widen w.replicates 5 r.toNat, g := widen w.replicates 5 g.toNat, b := widen w.replicates 5 b.toNat }
      (if key then 0xFF else 0)
  | .index8 e => pixelWord (t.entry (w.entryOf (.index8 e))).colour w.spare
  | .index4 i => pixelWord (t.entry (w.entryOf (.index4 i))).colour w.spare

/-! ### Fields of a group (R4, Table 11-2) -/

/-- The bits of a stored value's field. -/
def Stored.field : Stored → BitVec 24
  | .rgb24 r g b => r ++ g ++ b
  | .rgb16 r g b => (r ++ g ++ b).setWidth 24
  | .rgb15 key r g b => (BitVec.ofBool key ++ r ++ g ++ b).setWidth 24
  | .index8 e => e.setWidth 24
  | .index4 i => i.setWidth 24

/-- The stored value that a field's bits are. -/
def Fmt.storedOf (f : Fmt) (bits : BitVec 24) : Stored :=
  match f with
  | .p24 => .rgb24 (bits.extractLsb' 16 8) (bits.extractLsb' 8 8) (bits.extractLsb' 0 8)
  | .p16 => .rgb16 (bits.extractLsb' 11 5) (bits.extractLsb' 5 6) (bits.extractLsb' 0 5)
  | .p15 => .rgb15 (bits.getLsbD 15) (bits.extractLsb' 10 5) (bits.extractLsb' 5 5) (bits.extractLsb' 0 5)
  | .i8 => .index8 (bits.extractLsb' 0 8)
  | .i4 => .index4 (bits.extractLsb' 0 4)

/-- Slot s of group data. Every format places slot s at bit width × s (Table 11-2). -/
def Fmt.getSlot (f : Fmt) (d : GroupData) (s : SlotId) : Stored :=
  f.storedOf ((d >>> (f.width * s.val)).setWidth 24 &&& BitVec.ofNat 24 (2 ^ f.width - 1))

/-- Group data with slot s replaced. -/
def Fmt.putSlot (f : Fmt) (d : GroupData) (s : SlotId) (v : Stored) : GroupData :=
  (d &&& ~~~(BitVec.ofNat 192 (2 ^ f.width - 1) <<< (f.width * s.val))) ||| (v.field.setWidth 192 <<< (f.width * s.val))

/-- The stored values that bytes complete, in pixel order, and the bytes left over (R140; R37 for the nibble order). -/
def Fmt.pixelsOf : Fmt → List Byte → List Stored × List Byte
  | .p24, b :: g :: r :: rest =>
    let (ps, left) := Fmt.pixelsOf .p24 rest
    (Fmt.storedOf .p24 (r ++ g ++ b) :: ps, left)
  | .p16, lo :: hi :: rest =>
    let (ps, left) := Fmt.pixelsOf .p16 rest
    (Fmt.storedOf .p16 ((hi ++ lo).setWidth 24) :: ps, left)
  | .p15, lo :: hi :: rest =>
    let (ps, left) := Fmt.pixelsOf .p15 rest
    (Fmt.storedOf .p15 ((hi ++ lo).setWidth 24) :: ps, left)
  | .i8, e :: rest =>
    let (ps, left) := Fmt.pixelsOf .i8 rest
    (.index8 e :: ps, left)
  | .i4, b :: rest =>
    let (ps, left) := Fmt.pixelsOf .i4 rest
    (.index4 (b.extractLsb' 0 4) :: .index4 (b.extractLsb' 4 4) :: ps, left)
  | _, left => ([], left)

/-! ### Blocks of memory words (Table 11-3) -/

/-- Byte j of a block. -/
def blockByte (d : Block) (j : Nat) : Byte := d.extractLsb' (8 * j) 8

/-- The first n bytes of a block. -/
def blockBytes (d : Block) (n : Nat) : List Byte := (List.range n).map (blockByte d)

/-- The block whose byte j is f j, for j below n. -/
def blockOf (n : Nat) (f : Nat → Byte) : Block :=
  (List.range n).foldl (fun d j => d ||| ((f j).setWidth 512 <<< (8 * j))) 0

/-- The masks whose bit j is f j, for j below n. -/
def maskOf (n : Nat) (f : Nat → Bool) : BlockMask :=
  (List.range n).foldl (fun m j => if f j then m ||| (1#64 <<< j) else m) 0

/-- Every mask of n bytes set (R4, R30). -/
def fullMask (n : Nat) : BlockMask := BitVec.ofNat 64 (2 ^ n - 1)

/-- Byte j of a list of memory words, if the word is given. -/
def wordsByte (ws : List Word64) (j : Nat) : Option Byte :=
  match ws[j / 8]? with
  | some w => some (w.extractLsb' (8 * (j % 8)) 8)
  | none => none

/-- The fill byte of R30: the fill entry value in I8, 17 times it in I4. -/
def Window.fillByte (w : Window) : Byte :=
  match w.fmt with
  | .i4 => BitVec.ofNat 8 (17 * (w.fillEntry.toNat % 16))
  | _ => w.fillEntry

end Sys2Proof.Machine
end

