-- ==== Sys2Proof/Machine/Flags.lean ====
section
/-! DEFINITION. Entry states and counts, the conditions that events wait for, timers that are due, and ATTN. -/

namespace Sys2Proof.Machine

/-! ### Entry states (Table 4-2, R73) -/

def Entry.isFree (x : Entry) : Bool := !x.pinned && x.count == 0

def Entry.isLive (x : Entry) : Bool := !x.pinned && x.count != 0

def Entry.isPinned (x : Entry) : Bool := x.pinned

/-! ### Count events (R86) -/

/-- A count event that adds n: limited at the largest count, which sets suspect. -/
def ColourTable.addCount (t : ColourTable) (e : EntryId) (n : Nat) : ColourTable :=
  let x := t.entry e
  if x.count + n ≤ Config.countMax then t.setEntry e { x with count := x.count + n }
  else { t.setEntry e { x with count := Config.countMax } with suspect := true }

/-- A count event that subtracts n: limited at 0, which sets suspect. -/
def ColourTable.subCount (t : ColourTable) (e : EntryId) (n : Nat) : ColourTable :=
  let x := t.entry e
  if n ≤ x.count then t.setEntry e { x with count := x.count - n }
  else { t.setEntry e { x with count := 0 } with suspect := true }

/-- Several decreases of 1, taken together (R86, R88, R90). -/
def ColourTable.subCounts (t : ColourTable) (es : List EntryId) : ColourTable :=
  es.foldl (fun t e => t.subCount e 1) t

/-- Every count 0 and suspect clear, colours and pins kept (R74, R100). -/
def ColourTable.clearCounts (t : ColourTable) : ColourTable :=
  { t with entries := t.entries.map (fun x => { x with count := 0 }), suspect := false }

/-! ### Mirror conditions -/

/-- The sent counter has reached m (R111). -/
def reached (sent m : Half) : Bool := decide ((sent - m).toNat < 32768)

/-- A mirror wait for m is satisfied (R65, R112). -/
def Mirror.satisfied (m : Mirror) (mark : Half) : Bool :=
  m.link == .detached || reached m.sent mark || m.queue.isEmpty

/-- Messages in the queue, with a place held in reserve (R106). -/
def Mirror.level (m : Mirror) : Nat := m.queue.length + if m.reserve then 1 else 0

/-- An enqueue finds a place (R106). -/
def Mirror.hasRoom (m : Mirror) : Bool := decide (m.level < Config.mirrorPlaces)

/-- The stall condition (R113): not DETACHED, no credit, and a message whose transmission has not begun. -/
def Mirror.stalled (m : Mirror) : Bool :=
  m.link != .detached && m.credits == 0 && decide ((if m.sending then 1 else 0) < m.queue.length)

/-! ### Gather conditions -/

/-- The slots of a line's group that are occupied, in slot order. -/
def Line.occupied (ln : Line) : List (SlotId × Stored) :=
  allSlots.filterMap (fun i => (ln.slots[i]).map (fun v => (i, v)))

/-- Every slot of the group is occupied (R50). -/
def Line.complete (w : Window) (ln : Line) : Bool :=
  allSlots.all (fun i => decide (w.fmt.pixels ≤ i.val) || (ln.slots[i]).isSome)

/-- The kind of a flush (Table 3-4, R61). -/
def flushKind (w : Window) (ln : Line) : FlushKind :=
  if w.adaptive then .counted else if ln.complete w then .full else .merge

/-- The first phase of a kind (R54). -/
def FlushKind.firstPhase : FlushKind → Phase
  | .full => .mirrorWait
  | _ => .readWait

/-- The line holds the group of the window (R46, R69). -/
def Line.holds (ln : Line) (w : WindowId) (g : Nat) : Bool := ln.state != .free && ln.window == w && ln.group == g

/-- The window has a line that is not FREE (R35, R36). -/
def State.windowHasLine (s : State) (w : WindowId) : Bool :=
  allLines.any (fun l => (s.line l).state != .free && (s.line l).window == w)

/-- Ingress holds a beat of the window: a write beat being placed, or a read beat whose group read has not returned (R25;
log entry 9). -/
def State.holdsBeat (s : State) (w : WindowId) : Bool :=
  match s.host.handling with
  | none => false
  | some h =>
    (match h.activity with
     | .placing b => b.window == w
     | _ => false) ||
    h.reads.any (fun r => r.window == w && (r.status == .presented || r.status == .outstanding))

/-- A soft reset is in progress (R170 to R172). -/
def State.inSoftReset (s : State) : Bool := s.port.action.running == some .softReset

/-! ### Timers that have reached their interval (R53, R113, R128, R135) -/

/-- The line's idle timer has reached the gather idle interval (R53). -/
def State.idleReached (s : State) (l : LineId) : Bool :=
  (s.line l).state == .gathering && s.port.settings.gatherIdle != 0 &&
    decide (s.port.settings.gatherIdle.toNat ≤ (s.line l).idle)

/-- The stall timer has reached the mirror stall interval (R113). -/
def State.stallReached (s : State) : Bool :=
  s.mirror.stalled && s.port.settings.mirrorStall != 0 &&
    decide (s.port.settings.mirrorStall.toNat * Config.ticksPerMs ≤ s.mirror.stall)

/-- The age of the head has reached the memory timeout (R128). -/
def State.timeoutReached (s : State) : Bool :=
  !s.link.halted && s.port.settings.memTimeout != 0 &&
    match s.link.outstanding with
    | [] => false
    | o :: _ => decide (s.port.settings.memTimeout.toNat ≤ o.age)

/-- The window's quiet timer has reached its interval (R135). -/
def State.quietReached (s : State) (w : WindowId) : Bool :=
  (s.win w).state == .armed && (s.win w).quiet != 0 &&
    match (s.win w).timer with
    | .idle => false
    | .timing t => decide ((s.win w).quiet.toNat * Config.ticksPerQuietUnit ≤ t)

/-- What a tick marks (log entry 21). -/
def State.ripen (s : State) : State :=
  { s with
    ripe :=
      { idle := allLines.filter s.idleReached, stall := s.stallReached, timeout := s.timeoutReached,
        quiet := allWindows.filter s.quietReached } }

/-! ### Expiries that are due

The last tick marked the timer, and nothing has restarted or stopped it since. A setting written since has no part in it: the
timers see a new value at their next tick (R166). A timer that the tick marked had reached an interval above 0 and moves only at
ticks, so it reads 0 exactly where it has been restarted. -/

/-- The line's idle timer has expired (R53). -/
def State.idleDue (s : State) (l : LineId) : Bool :=
  s.ripe.idle.contains l && (s.line l).state == .gathering && (s.line l).idle != 0

/-- The stall interval has expired (R113): a credit taken since sets the timer back. -/
def State.stallDue (s : State) : Bool := s.ripe.stall && s.mirror.stalled && s.mirror.stall != 0

/-- The memory timeout has expired (R128): the mark goes when the head leaves the list (R130). -/
def State.timeoutDue (s : State) : Bool := s.ripe.timeout && !s.link.halted && !s.link.outstanding.isEmpty

/-- The window's quiet timer has expired (R135): a write taken since puts it at 0, and a DISARM or ARM makes it IDLE. -/
def State.quietDue (s : State) (w : WindowId) : Bool :=
  s.ripe.quiet.contains w && (s.win w).state == .armed &&
    match (s.win w).timer with
    | .idle => false
    | .timing t => t != 0

/-! ### ATTN (R180, Table 10-2) -/

/-- ATTN is asserted: a condition holds with its enable set. -/
def State.attn (s : State) : Bool :=
  let en := s.port.settings.enables
  (en.getLsbD 0 && !s.faults.records.isEmpty) || (en.getLsbD 1 && !s.scan.results.isEmpty) ||
    (en.getLsbD 2 && s.mirror.lost) || (en.getLsbD 3 && s.colour.suspect)

end Sys2Proof.Machine
end

