-- ==== Sys2Proof/Machine/Ops.lean ====
section
/-! DEFINITION. The shared operations: faults, memory, mirror queue, flushes, host beats, window engine and scan unit. -/

namespace Sys2Proof.Machine

/-! ### The SPI transaction and SDO (R159; log entry 20) -/

/-- The transaction is set. -/
def State.setTxn (s : State) (t : Transaction) : State := { s with port := { s.port with txn := t } }

/-- What SDO has carried in the open transaction is set; none where SDO is not driven. -/
def State.setSdo (s : State) (x : Option (List Byte)) : State := { s with out := { s.out with sdo := x } }

/-- A byte of the open transaction is shifted out on SDO. -/
def State.shiftOut (s : State) (v : Byte) : State := s.setSdo (some (s.out.sdo.getD [] ++ [v]))

/-- What SDO carries before the first data byte: 00h in bytes 0 to 2 of a write, and in bytes 0 to 3 of a read (R159). -/
def headerBytes (write : Bool) : List Byte := List.replicate (if write then 3 else 4) 0

/-! ### Fault queue (R176) -/

/-- A record is appended, or dropped with overflow set when eight are held. -/
def FaultQueue.append (q : FaultQueue) (r : FaultRecord) : FaultQueue :=
  if q.records.length < Config.faultPlaces then { q with records := q.records ++ [r] } else { q with overflow := true }

def State.appendFault (s : State) (r : FaultRecord) : State := { s with faults := s.faults.append r }

/-- A record with no optional field (Table 10-1). -/
def FaultRecord.bare (c : FaultCause) : FaultRecord := { cause := c, window := none, addr := none, entry := none, flush := none }

/-! ### The memory behind the link (R121; log entry 5) -/

/-- The byte that the bridge's OK writes have put at an address; none where they have put none. -/
def Memory.read : Memory → Nat → Option Byte
  | [], _ => none
  | (a, b) :: m, x => if a = x then some b else Memory.read m x

/-- A byte is put at an address, keeping the cells in rising address order. -/
def Memory.write : Memory → Nat → Byte → Memory
  | [], x, v => [(x, v)]
  | (a, b) :: m, x, v =>
    if x < a then (x, v) :: (a, b) :: m
    else if x = a then (a, v) :: m
    else (a, b) :: Memory.write m x v

/-- The canonical form: addresses strictly rising. An unlisted address reads as none, so no entry equals what it reads as. -/
def Memory.wf : Memory → Bool
  | [] => true
  | (a, _) :: m =>
    (match m with
     | [] => true
     | (a', _) :: _ => decide (a < a')) && Memory.wf m

/-- What the memory partner holds at an address (R121): the byte written, or what power-up left there. -/
def Memory.byte (m : Memory) (a : Nat) : Byte := (m.read a).getD (Config.powerUpByte a)

/-- A WRITE is performed: each byte whose mask is set is written (R120). -/
def Memory.perform (m : Memory) (r : MemRequest) : Memory :=
  (List.range (8 * r.words)).foldl
    (fun m j => if r.mask.getLsbD j then m.write (r.addr.toNat + j) (blockByte r.data j) else m) m

/-- The data of an OK response to a READ: the words given, and memory as it stands for the words not given (R121). -/
def Memory.reply (m : Memory) (r : MemRequest) (ws : List Word64) : Block :=
  blockOf (8 * r.words) (fun j => (wordsByte ws j).getD (m.byte (r.addr.toNat + j)))

/-- A WRITE that the bridge has given up on may still be performed (R68): a free value decides. -/
def State.lateWrite (s : State) (o : Outstanding) : State :=
  if o.req.write then
    { s with memory := if Config.lateWrite s.freeCount then s.memory.perform o.req else s.memory, freeCount := s.freeCount + 1 }
  else s

/-- Every WRITE outstanding may still be performed (R68, R129, R132). -/
def State.lateWrites (s : State) : State := s.link.outstanding.foldl State.lateWrite s

/-! ### Mirror queue -/

/-- A message joins the tail with the next sequence number (R103, R104). -/
def Mirror.enqueue (m : Mirror) (k : MessageKind) (e : EntryId) (c : Colour) : Mirror :=
  { m with
    enqueued := m.enqueued + 1
    queue := m.queue ++ [{ kind := k, seq := m.enqueued + 1, entry := e, colour := c }] }

/-- The ENTRY message of an entry, with the colour it holds in this event (R102). -/
def State.announce (s : State) (e : EntryId) : State :=
  { s with mirror := s.mirror.enqueue .entry e (s.entry e).colour }

/-- The resync generator has a message left (R107). -/
def Mirror.walking (m : Mirror) : Bool := m.link == .resync && m.walk != .over

/-- The generator's next message (R109): the ENTRY message at the pointer, or RESYNC_END after E255's. -/
def State.resyncNext (s : State) : State :=
  match s.mirror.walk with
  | .entries =>
    let t := s.announce s.mirror.pointer
    if s.mirror.pointer.val = 255 then { t with mirror := { t.mirror with walk := .ending } }
    else { t with mirror := { t.mirror with pointer := s.mirror.pointer + 1 } }
  | .ending =>
    let m := s.mirror.enqueue .resyncEnd 0 Colour.black
    { s with mirror := { m with walk := .over } }
  | .over => s

/-- The write beat of ingress waits for mirror queue space (R82). -/
def State.beatWaitsSpace (s : State) : Bool :=
  match s.host.handling with
  | none => false
  | some h =>
    match h.activity with
    | .placing b => b.wait == .space
    | _ => false

/-- The fill whose announcement waits to be enqueued (R29). -/
def State.announcing (s : State) : Option Fill :=
  match s.engine with
  | .filling f => if f.phase == .announce && !f.aborted then some f else none
  | _ => none

/-- The fill's message is enqueued (R29); the engine then waits for its number. -/
def State.fillEnqueue (s : State) (f : Fill) : State :=
  let t := s.announce (s.win f.window).fillEntryId
  { t with engine := .filling { f with phase := .sending t.mirror.enqueued } }

/-- A free place is granted to one waiting claimant (R107): the held-announcement list, the waiting beat (a reserve), the
window engine, the resync generator. -/
def State.grantPlace (s : State) : State :=
  if s.mirror.link == .detached || !s.mirror.hasRoom then s
  else
    match s.colour.held with
    | e :: rest => ({ s with colour := { s.colour with held := rest } }).announce e
    | [] =>
      if s.beatWaitsSpace then { s with mirror := { s.mirror with reserve := true } }
      else
        match s.announcing with
        | some f => s.fillEnqueue f
        | none => if s.mirror.walking then s.resyncNext else s

/-- A reserve not used is given up when the attempt ends, and the place is granted anew (R107). -/
def State.dropReserve (s : State) : State :=
  if s.mirror.reserve then State.grantPlace { s with mirror := { s.mirror with reserve := false } } else s

/-- A detach (R116, R117). The waits it satisfies are taken in the same event by `settle`. -/
def State.detach (s : State) : State :=
  { s with
    mirror :=
      { s.mirror with
        link := .detached, queue := [], sending := false, reserve := false, credits := 0, sent := s.mirror.enqueued,
        pointer := 0, walk := .over, stall := 0 }
    colour := { s.colour with held := [] } }

/-- An announcement of a management colour write (R95): enqueued, or held; none while DETACHED. -/
def State.announceWrite (s : State) (e : EntryId) : State :=
  if s.mirror.link == .detached then s
  else if s.mirror.hasRoom && s.colour.held.isEmpty then s.announce e
  else if s.colour.held.contains e then s
  else { s with colour := { s.colour with held := s.colour.held ++ [e] } }

/-! ### Flushes -/

/-- A GATHERING line starts flushing (R54); any other line is left as it is. -/
def State.startFlush (s : State) (l : LineId) (c : FlushCause) : State :=
  let ln := s.line l
  if ln.state == .gathering then
    let k := flushKind (s.win ln.window) ln
    let t := s.setLine l { ln with state := .flushing, phase := some k.firstPhase, kind := some k, cause := some c, issued := false }
    { t with gather := { t.gather with age := t.gather.age.filter (· != l), order := t.gather.order ++ [l] } }
  else s

/-- A claim: the GATHERING lines that p names start flushing, in the order of the age list (R45). -/
def State.claim (s : State) (p : Line → Bool) (c : FlushCause) : State :=
  s.gather.age.foldl (fun t l => if p (s.line l) then t.startFlush l c else t) s

/-- The wait set of a claim (R55): every line that p names and that is GATHERING or FLUSHING. -/
def State.waitSet (s : State) (p : Line → Bool) : List LineId :=
  allLines.filter (fun l => (s.line l).state != .free && p (s.line l))

/-- A line leaves a wait set (R55). -/
def leave (l : LineId) (set : List LineId) : List LineId := set.filter (· != l)

/-- A line leaves the set that a held beat waits on. -/
def HeldBeat.leaveWait (h : HeldBeat) (l : LineId) : HeldBeat :=
  match h.wait with
  | .flushes set => { h with wait := .flushes (leave l set) }
  | _ => h

/-- A line leaves the set that ingress waits on. -/
def Activity.leaveWait (a : Activity) (l : LineId) : Activity :=
  match a with
  | .placing h => .placing (h.leaveWait l)
  | .running r => .running { r with wait := leave l r.wait }
  | _ => a

/-- A group read that has returned serves no further beat once a line of its group has become FREE (R71; log entry 8). -/
def GroupRead.current (r : GroupRead) (w : WindowId) (g : Nat) : Bool :=
  r.status == .presented || r.status == .outstanding || !(r.window == w && r.group == g)

/-- Ingress learns that line l, of group g of window w, has become FREE. -/
def Handling.lineFreed (h : Handling) (l : LineId) (w : WindowId) (g : Nat) : Handling :=
  { h with activity := h.activity.leaveWait l, reads := h.reads.filter (fun r => r.current w g) }

/-- The action's wait set without a line. -/
def Running.leaveWait : Running → LineId → Running
  | .flushAll set, l => .flushAll (leave l set)
  | .softReset, _ => .softReset

/-- A line becomes FREE (R42, R66): its slots are emptied, and it leaves the flush order and every wait set. What the freeing
sets off is taken in the same event by `settle`. -/
def State.freeLine (s : State) (l : LineId) : State :=
  let ln := s.line l
  let t := s.setLine l Line.blank
  { t with
    gather :=
      { t.gather with
        age := t.gather.age.filter (· != l)
        order := t.gather.order.filter (· != l)
        present := if t.gather.present = some l then none else t.gather.present }
    port := { t.port with action := { t.port.action with running := t.port.action.running.map (·.leaveWait l) } }
    scan := { t.scan with wait := leave l t.scan.wait }
    host := { t.host with handling := t.host.handling.map (·.lineFreed l ln.window ln.group) } }

/-- The entries that a line's occupied slots name (R88). -/
def State.slotEntries (s : State) (ln : Line) : List EntryId :=
  ln.occupied.map (fun p => (s.win ln.window).entryOf p.2)

/-- A flush fails (R67): LOST_WRITE, the count events of a COUNTED flush, and the line is FREE. -/
def State.flushFail (s : State) (l : LineId) : State :=
  let ln := s.line l
  let w := s.win ln.window
  let t := s.appendFault
    { cause := .lostWrite, window := some ln.window, addr := some (BitVec.ofNat 32 (w.groupAddr ln.group)), entry := none,
      flush := ln.cause }
  let u := if ln.kind == some .counted then { t with colour := t.colour.subCounts (s.slotEntries ln) } else t
  u.freeLine l

/-- The group data a flush writes (R64): occupied slots over the data read; a FULL flush has no data read. -/
def Line.merged (w : Window) (ln : Line) : GroupData :=
  ln.occupied.foldl (fun d p => w.fmt.putSlot d p.1 p.2) ln.data

/-- The line's request of its phase (Table 6-1): none outside READ_WAIT and WRITE_WAIT, or once issued. -/
def State.lineRequest (s : State) (l : LineId) : Option (MemRequest × Requester) :=
  let ln := s.line l
  let w := s.win ln.window
  let addr := BitVec.ofNat 32 (w.groupAddr ln.group)
  let words := w.fmt.bytes / 8
  if ln.state == .flushing && !ln.issued then
    match ln.phase with
    | some .readWait => some ({ write := false, addr, words, data := 0, mask := 0 }, .flushRead l)
    | some .writeWait =>
      some ({ write := true, addr, words, data := (ln.merged w).setWidth 512, mask := fullMask w.fmt.bytes }, .flushWrite l)
    | _ => none
  else none

/-- A flush read returned OK (R63): the data is kept, a COUNTED flush takes the old indices, and the line enters MIRROR_WAIT. -/
def State.flushReadDone (s : State) (l : LineId) (d : Block) : State :=
  let ln := s.line l
  let w := s.win ln.window
  let g := d.setWidth 192
  s.setLine l
    { ln with
      data := g
      oldIndices := if ln.kind == some .counted then ln.occupied.map (fun p => w.entryOf (w.fmt.getSlot g p.1)) else []
      phase := some .mirrorWait
      issued := false }

/-- A flush write returned OK (R66): the old indices of a COUNTED flush take their count events, and the line is FREE. -/
def State.flushWriteDone (s : State) (l : LineId) : State :=
  let ln := s.line l
  let t := if ln.kind == some .counted then { s with colour := s.colour.subCounts ln.oldIndices } else s
  t.freeLine l

/-! ### Host ingress -/

/-- The head request. -/
def State.headRequest (s : State) : Option HostRequest := s.host.queue.head?

/-- The byte address of beat 0. -/
def requestAddr : HostRequest → Word32
  | .read a _ => a
  | .write a _ => a

/-- The number of beats. -/
def requestLength : HostRequest → Nat
  | .read _ n => n
  | .write _ bs => bs.length

/-- The request is a READ. -/
def requestIsRead : HostRequest → Bool
  | .read _ _ => true
  | .write _ _ => false

/-- The write data of beat i. -/
def requestBeat (r : HostRequest) (i : Nat) : WriteBeat :=
  match r with
  | .read _ _ => { data := 0, strobes := 0 }
  | .write _ bs => bs.getD i { data := 0, strobes := 0 }

/-- The address of beat i (Table 8-1). -/
def requestBeatAddr (r : HostRequest) (i : Nat) : Nat := (requestAddr r).toNat + 4 * i

/-- The address of beat i of the head request. -/
def State.beatAddr (s : State) (i : Nat) : Nat :=
  match s.headRequest with
  | some r => requestBeatAddr r i
  | none => 0

/-- A change of the handling. -/
def State.mapHandling (s : State) (f : Handling → Handling) : State :=
  { s with host := { s.host with handling := s.host.handling.map f } }

/-- Beats first to last take a result. -/
def Handling.setResults (h : Handling) (first last : Nat) (r : BeatResult) : Handling :=
  { h with results := h.results.mapIdx (fun i x => if first ≤ i ∧ i ≤ last then r else x) }

/-- The beats that await the read `id` take a result. -/
def Handling.answer (h : Handling) (id : Nat) (f : Nat → BeatResult) : Handling :=
  { h with results := h.results.mapIdx (fun i x => if x = .awaiting id then f i else x) }

/-- Ingress goes on with beat n. -/
def Handling.goOn (h : Handling) (n : Nat) : Handling := { h with activity := .ready, next := n }

/-- Requests that wait on the link are taken while there is room (R148). -/
def HostSide.takeWaiting (x : HostSide) : HostSide :=
  if x.taking then
    { x with
      queue := x.queue ++ x.waiting.take (Config.ingressPlaces - x.queue.length)
      waiting := x.waiting.drop (Config.ingressPlaces - x.queue.length) }
  else x

/-- The response of the head request is issued and the request leaves the queue (R148, R157). -/
def State.respond (s : State) (r : HostResponse) : State :=
  { s with
    host := HostSide.takeWaiting { s.host with queue := s.host.queue.tail, handling := none }
    out := { s.out with responses := s.out.responses ++ [r] } }

/-- The response that the results make (R157). -/
def responseOf (r : HostRequest) (results : List BeatResult) : HostResponse :=
  { cause := results.findSome? (fun x => match x with | .fault c => some c | _ => none)
    data := if requestIsRead r then results.map (fun x => match x with | .done d => d | _ => 0) else [] }

/-- The response of a request that faults as a whole (R149, R158). -/
def faultResponse (r : HostRequest) (c : HostFault) : HostResponse :=
  { cause := some c, data := if requestIsRead r then List.replicate (requestLength r) 0 else [] }

/-- A group read's status is set. -/
def Handling.setRead (h : Handling) (id : Nat) (st : ReadStatus) : Handling :=
  { h with reads := h.reads.map (fun r => if r.id = id then { r with status := st } else r) }

/-- The pixel of beat i, decoded from the data of its group (R70). -/
def State.decodeBeat (s : State) (w : WindowId) (d : GroupData) (i : Nat) : Word32 :=
  let win := s.win w
  win.decode s.colour (win.fmt.getSlot d (win.slotOf (s.beatAddr i)))

/-- A group read returned OK (R70, R152): each beat it serves is decoded. -/
def State.groupReadDone (s : State) (id : Nat) (d : Block) : State :=
  match s.host.handling with
  | none => s
  | some h =>
    match h.reads.find? (fun r => r.id == id) with
    | none => s
    | some r =>
      s.mapHandling (fun h =>
        (h.answer id (fun i => .done (s.decodeBeat r.window (d.setWidth 192) i))).setRead id (.returned (d.setWidth 192)))

/-- A group read returned ERROR (R70): each beat it serves faults MEMORY. -/
def State.groupReadFail (s : State) (id : Nat) : State :=
  s.mapHandling (fun h => (h.answer id (fun _ => .fault .memory)).setRead id .failed)

/-- The 32 bits at a byte offset of a block. -/
def blockBeat (d : Block) (off : Nat) : Word32 := (d >>> (8 * off)).setWidth 32

/-- A passthrough read piece returned OK (R156): each beat takes the four bytes at its address. -/
def State.pieceReadDone (s : State) (id : Nat) (req : MemRequest) (d : Block) : State :=
  s.mapHandling (fun h => h.answer id (fun i => .done (blockBeat d (s.beatAddr i - req.addr.toNat))))

/-- A passthrough read piece returned ERROR (R156). -/
def State.pieceReadFail (s : State) (id : Nat) : State :=
  s.mapHandling (fun h => h.answer id (fun _ => .fault .memory))

/-- A run without its first piece: the next piece is presented, or the run is done (R154). -/
def Handling.dropPiece (h : Handling) (r : Run) : Handling :=
  match r.pieces with
  | [] => h.goOn (r.last + 1)
  | [_] => h.goOn (r.last + 1)
  | _ :: rest => { h with activity := .running { r with pieces := rest } }

/-- A piece has been issued (R156): a WRITE's beats are done, a READ's beats await it. -/
def Handling.pieceIssued (h : Handling) (r : Run) (p : Piece) : Handling :=
  (h.setResults p.first p.last (if r.write then .done 0 else .awaiting p.first)).dropPiece r

/-- A piece has been answered ERROR at presentation (R126, R156): its beats fault MEMORY. -/
def Handling.pieceRefused (h : Handling) (r : Run) (p : Piece) : Handling :=
  (h.setResults p.first p.last (.fault .memory)).dropPiece r

/-- The request that ingress presents (R152, R154): a group read, or the first piece of a presenting run. -/
def State.hostRequest (s : State) : Option (MemRequest × Requester) :=
  match s.host.handling with
  | none => none
  | some h =>
    match h.activity with
    | .reading id =>
      match h.reads.find? (fun r => r.id == id) with
      | none => none
      | some r =>
        let w := s.win r.window
        some ({ write := false, addr := BitVec.ofNat 32 (w.groupAddr r.group), words := w.fmt.bytes / 8, data := 0, mask := 0 },
          .hostGroup id)
    | .running r =>
      if r.presenting then
        match r.pieces with
        | [] => none
        | p :: _ => some (p.req, if r.write then .posted else .hostPiece p.first)
      else none
    | _ => none

/-- The presented request of ingress has been issued. -/
def Handling.issued (h : Handling) : Handling :=
  match h.activity with
  | .reading id => (h.setRead id .outstanding).goOn (id + 1)
  | .running r =>
    match r.pieces with
    | [] => h
    | p :: _ => h.pieceIssued r p
  | _ => h

/-- The presented request of ingress has been answered ERROR without being issued (R124). -/
def Handling.refused (h : Handling) : Handling :=
  match h.activity with
  | .reading id => ((h.answer id (fun _ => .fault .memory)).setRead id .failed).goOn (id + 1)
  | .running r =>
    match r.pieces with
    | [] => h
    | p :: _ => h.pieceRefused r p
  | _ => h

/-! ### Window engine -/

/-- A member of the outstanding list is the window engine's. -/
def Outstanding.isEngine (o : Outstanding) : Bool := o.by' == .fill || o.by' == .release

/-- The length of the next access of a walk through a window's memory (R30, R37, R140). -/
def blockLength (w : Window) (next : Nat) : Nat := min Config.blockBytes (w.memHi - next)

/-- The request the engine presents (R30, R37): none once failed, aborted or at the end. -/
def State.engineRequest (s : State) : Option (MemRequest × Requester) :=
  match s.engine with
  | .idle => none
  | .filling f =>
    let w := s.win f.window
    if f.phase == .writing && f.failed.isNone && !f.aborted && decide (f.next < w.memHi) then
      let n := blockLength w f.next
      some ({ write := true, addr := BitVec.ofNat 32 f.next, words := n / 8, data := blockOf n (fun _ => w.fillByte),
              mask := fullMask n }, .fill)
    else none
  | .releasing r =>
    let w := s.win r.window
    if r.reading && r.failed.isNone && decide (r.next < w.memHi) then
      some ({ write := false, addr := BitVec.ofNat 32 r.next, words := blockLength w r.next / 8, data := 0, mask := 0 }, .release)
    else none

/-- The engine's presented request has been issued. -/
def State.engineIssued (s : State) : State :=
  match s.engine with
  | .idle => s
  | .filling f => { s with engine := .filling { f with next := f.next + blockLength (s.win f.window) f.next } }
  | .releasing r => { s with engine := .releasing { r with next := r.next + blockLength (s.win r.window) r.next } }

/-- A request of the engine has returned ERROR: the first one is kept (R32, R39); after an abort none is examined (R33). -/
def State.engineFail (s : State) (addr : Word32) : State :=
  match s.engine with
  | .idle => s
  | .filling f => if f.failed.isNone && !f.aborted then { s with engine := .filling { f with failed := some addr } } else s
  | .releasing r => if r.failed.isNone then { s with engine := .releasing { r with failed := some addr } } else s

/-- The state of a window is set. -/
def State.setWindowState (s : State) (w : WindowId) (st : WindowState) : State := s.setWin w { s.win w with state := st }

/-- A fill has ended without completing: its count is taken back and the window goes OFF (R32, R33, R89). -/
def State.fillUndo (s : State) (f : Fill) : State :=
  let w := s.win f.window
  let t := { s with colour := s.colour.subCount w.fillEntryId w.pixels.toNat, engine := Engine.idle }
  t.setWindowState f.window .off

/-- The engine's operation ends when none of its requests is outstanding and it has completed (R31, R38), failed (R32, R39)
or been aborted (R33). -/
def State.engineFinish (s : State) : State :=
  if s.link.outstanding.any Outstanding.isEngine then s
  else
    match s.engine with
    | .idle => s
    | .filling f =>
      match f.failed with
      | some a =>
        State.appendFault (s.fillUndo f)
          { cause := .fillFailed, window := some f.window, addr := some a, entry := some (s.win f.window).fillEntryId, flush := none }
      | none =>
        if f.aborted then s.fillUndo f
        else if f.phase == .writing && decide ((s.win f.window).memHi ≤ f.next) then
          State.setWindowState { s with engine := .idle } f.window .armed
        else s
    | .releasing r =>
      match r.failed with
      | some a =>
        State.appendFault
          (State.setWindowState { s with engine := .idle, colour := { s.colour with suspect := true } } r.window .off)
          { cause := .releaseFailed, window := some r.window, addr := some a, entry := none, flush := none }
      | none =>
        if r.reading && decide ((s.win r.window).memHi ≤ r.pointer) then
          State.setWindowState { s with engine := .idle } r.window .off
        else s

/-- A release read returned OK (R37, R90): the pixels it covers leave the counts and the release pointer advances. -/
def State.releaseReadDone (s : State) (req : MemRequest) (d : Block) : State :=
  match s.engine with
  | .releasing r =>
    if r.failed.isSome then s
    else
      let w := s.win r.window
      let ps := (w.fmt.pixelsOf (blockBytes d (8 * req.words))).1
      { s with
        colour := s.colour.subCounts (ps.map w.entryOf)
        engine := .releasing { r with pointer := r.pointer + 8 * req.words } }
  | _ => s

/-! ### Scan unit -/

/-- One byte folded into the CRC remainder (R141): eight steps with the reversed generator EDB88320h. -/
def crcByte (crc : Word32) (b : Byte) : Word32 :=
  (List.range 8).foldl (fun c _ => if c.getLsbD 0 then (c >>> 1) ^^^ 0xEDB88320#32 else c >>> 1) (crc ^^^ b.setWidth 32)

/-- The four bytes B, G, R, K of a host pixel word folded in that order (R141). -/
def crcPixel (crc : Word32) (p : Word32) : Word32 :=
  crcByte (crcByte (crcByte (crcByte crc (p.extractLsb' 0 8)) (p.extractLsb' 8 8)) (p.extractLsb' 16 8)) (p.extractLsb' 24 8)

/-- The starting value of the CRC (R141). -/
def crcStart : Word32 := 0xFFFFFFFF

/-- The request the scan unit presents (R140). -/
def State.scanRequest (s : State) : Option (MemRequest × Requester) :=
  let w := s.win s.scan.window
  if s.scan.state == .reading && decide (s.scan.next < w.memHi) then
    some ({ write := false, addr := BitVec.ofNat 32 s.scan.next, words := blockLength w s.scan.next / 8, data := 0, mask := 0 }, .scan)
  else none

/-- A member of the outstanding list is the scan unit's. -/
def Outstanding.isScan (o : Outstanding) : Bool := o.by' == .scan

/-- A place in the result queue is reserved: the scan is in FLUSHING or READING (Table 7-2). -/
def ScanUnit.reserved (u : ScanUnit) : Bool := u.state == .flushing || u.state == .reading

/-- The scan ends (R143, R144, R145): the epoch steps, the record takes the reserved place, and the unit goes to ABORTING
while reads are outstanding and to IDLE otherwise. -/
def State.scanEnd (s : State) (st : ResultStatus) (crc : Word32) : State :=
  if s.scan.reserved then
    let w := s.win s.scan.window
    let t := s.setWin s.scan.window { w with epoch := w.epoch + 1 }
    { t with
      scan :=
        { t.scan with
          state := if s.link.outstanding.any Outstanding.isScan then .aborting else .idle
          wait := []
          kept := []
          results := t.scan.results ++
            [{ window := s.scan.window, epoch := w.epoch + 1, crc := crc, status := st, trigger := s.scan.trigger }] } }
  else s

/-- A scan read returned OK (R140): the pixels it completes are fed; after the last read the scan ends (R143). -/
def State.scanFeed (s : State) (req : MemRequest) (d : Block) : State :=
  let w := s.win s.scan.window
  let (ps, left) := w.fmt.pixelsOf (s.scan.kept ++ blockBytes d (8 * req.words))
  let crc := ps.foldl (fun c p => crcPixel c (w.decode s.colour p)) s.scan.crc
  let t := { s with scan := { s.scan with crc := crc, kept := left } }
  if decide (w.memHi ≤ s.scan.next) && !s.link.outstanding.any Outstanding.isScan then
    t.scanEnd (if s.scan.disturbed then .disturbed else .clean) (~~~crc)
  else t

/-- In ABORTING an outstanding read has returned; the last one returns the unit to IDLE (R144). -/
def State.scanDiscard (s : State) : State :=
  if s.link.outstanding.any Outstanding.isScan then s else { s with scan := { s.scan with state := .idle } }

/-- A response to a scan read. -/
def State.scanReply (s : State) (req : MemRequest) (d : Option Block) : State :=
  match s.scan.state with
  | .reading =>
    match d with
    | some d => s.scanFeed req d
    | none => s.scanEnd .memError 0
  | .aborting => s.scanDiscard
  | _ => s

/-- A DISARM of the window ends its scan (R144). -/
def State.scanAbort (s : State) (w : WindowId) : State :=
  if s.scan.reserved && s.scan.window == w then s.scanEnd .aborted 0 else s

end Sys2Proof.Machine
end

