-- ==== Sys2Proof/Machine/Lookup.lean ====
section
/-! DEFINITION. Reverse lookup of the colour table (Section 4.4): R77 to R85. -/

namespace Sys2Proof.Machine

/-- The distance of two channels. -/
def channelDistance (a b : Byte) : Nat := max a.toNat b.toNat - min a.toNat b.toNat

/-- The distance of two colours (R78). -/
def distance (c d : Colour) : Nat := channelDistance c.r d.r + channelDistance c.g d.g + channelDistance c.b d.b

/-- The first of the candidates that holds the colour (R79, R80): the lowest-numbered, since ranges ascend. -/
def ColourTable.exact (t : ColourTable) (c : Colour) (es : List EntryId) : Option EntryId :=
  es.find? (fun e => (t.entry e).colour == c)

/-- The nearest of the candidates, the lowest-numbered on a tie (R78). -/
def ColourTable.nearest (t : ColourTable) (c : Colour) (es : List EntryId) : Option EntryId :=
  es.foldl
    (fun best e =>
      match best with
      | none => some e
      | some b => if distance c (t.entry e).colour < distance c (t.entry b).colour then some e else some b)
    none

/-- What a search yields (Table 4-3): an entry, a FREE entry to allocate, no entry at all, or an exhausted range. -/
inductive Lookup where
  | found (e : EntryId)
  | allocate (e : EntryId)
  | noEntry
  | exhausted
deriving DecidableEq, Repr

/-- The nearest candidate, or no entry where there is no candidate. -/
def ColourTable.nearestOf (t : ColourTable) (c : Colour) (es : List EntryId) : Lookup :=
  match t.nearest c es with
  | some e => .found e
  | none => .noEntry

/-- The search of a FIXED window (R79). -/
def ColourTable.lookupFixed (t : ColourTable) (w : Window) (c : Colour) : Lookup :=
  let es := w.range.filter (fun e => (t.entry e).isPinned)
  match t.exact c es with
  | some e => .found e
  | none => t.nearestOf c es

/-- The search of an adaptive window (R80, R81, R83, R84). -/
def ColourTable.lookupAdaptive (t : ColourTable) (w : Window) (c : Colour) : Lookup :=
  let es := w.range.filter (fun e => !(t.entry e).isFree)
  match t.exact c es with
  | some e => .found e
  | none =>
    match w.range.find? (fun e => (t.entry e).isFree) with
    | some e => .allocate e
    | none => if w.faultPolicy then .exhausted else t.nearestOf c es

/-- The search under the window's table mode (Table 4-3). -/
def ColourTable.lookup (t : ColourTable) (w : Window) (c : Colour) : Lookup :=
  if w.adaptive then t.lookupAdaptive w c else t.lookupFixed w c

end Sys2Proof.Machine
end

