-- ==== Sys2Proof/Machine/Placement.lean ====
section
/-! DEFINITION. Placing a write beat (Sections 3.3 and 3.5): attempts, allocation, slot writes (R46 to R52, R59). -/

namespace Sys2Proof.Machine

/-- The beat is finished with a result, and ingress goes on (R47, R150). -/
def State.endBeat (s : State) (beat : Nat) (r : BeatResult) : State :=
  s.mapHandling (fun h => (h.setResults beat beat r).goOn (beat + 1))

/-- The beat waits (R47, R51, R52). -/
def State.holdBeat (s : State) (h : HeldBeat) : State := s.mapHandling (fun x => { x with activity := .placing h })

/-- The line that holds the group of the window (R46). -/
def State.findLine (s : State) (w : WindowId) (g : Nat) : Option LineId := allLines.find? (fun l => (s.line l).holds w g)

/-- The lowest-numbered FREE line (R46). -/
def State.freeLineId (s : State) : Option LineId := allLines.find? (fun l => (s.line l).state == .free)

/-- The head of the age list starts flushing with cause EVICT (R52). -/
def State.evict (s : State) : State :=
  match s.gather.age.head? with
  | some l => s.startFlush l .evict
  | none => s

/-- Where the stored value of a beat comes from (R46, R47): a value, an entry to allocate, a fault, a wait for queue space
(R82), or the exhaustion claim (R84). -/
inductive Choice where
  | value (v : Stored)
  | allocate (e : EntryId)
  | fault (c : HostFault)
  | space
  | claim
deriving DecidableEq, Repr

/-- An allocation finds its place in the mirror queue (R82, R106): none is needed while DETACHED; otherwise no announcement
may be held, and a place must be free or in reserve for this beat. -/
def State.canAllocate (s : State) : Bool :=
  s.mirror.link == .detached || (s.colour.held.isEmpty && (s.mirror.reserve || s.mirror.hasRoom))

/-- The choice of an attempt: the conversion of Chapter 1, or the reverse lookup (R46, R79 to R85). -/
def State.choose (s : State) (h : HeldBeat) : Choice :=
  let w := s.win h.window
  match w.encode h.word with
  | some v => .value v
  | none =>
    match s.colour.lookup w (pixelColour h.word) with
    | .found e => .value (w.indexOf e)
    | .allocate e => if s.canAllocate then .allocate e else .space
    | .noEntry => .fault .noEntry
    | .exhausted => if h.retry then .fault .exhausted else .claim

/-- An allocation (R81): the entry takes the colour and, unless DETACHED, its ENTRY message is enqueued, in the reserved
place where there is one (R107). -/
def State.allocateEntry (s : State) (e : EntryId) (c : Colour) : State :=
  let t := { s with colour := s.colour.setEntry e { s.entry e with colour := c } }
  if t.mirror.link == .detached then t else State.announce { t with mirror := { t.mirror with reserve := false } } e

/-- The count events of a slot write (R49, R87): none where the new and the replaced index name one entry. -/
def State.slotCounts (s : State) (w : Window) (v : Stored) (old : Option Stored) : State :=
  if w.adaptive then
    match old with
    | none => { s with colour := s.colour.addCount (w.entryOf v) 1 }
    | some v' =>
      if w.entryOf v = w.entryOf v' then s
      else { s with colour := (s.colour.addCount (w.entryOf v) 1).subCount (w.entryOf v') 1 }
  else s

/-- The scan unit's part of an accepted translated write (R49, R134, R135, R142). -/
def State.reportWrite (s : State) (w : WindowId) : State :=
  let t := s.setWin w { s.win w with dirty := true, timer := .timing 0 }
  if t.scan.reserved && t.scan.window == w then { t with scan := { t.scan with disturbed := true } } else t

/-- The line a slot write finds (R48): a FREE line is allocated for the beat's group. -/
def Line.target (ln : Line) (h : HeldBeat) : Line :=
  if ln.state == .free then { Line.blank with state := .gathering, window := h.window, group := h.group } else ln

/-- The flush that a slot write starts (R50): DISARM in a draining window, COMPLETE when every slot is occupied. -/
def State.flushAfterWrite (s : State) (l : LineId) : State :=
  let ln := s.line l
  let w := s.win ln.window
  if w.state == .draining then s.startFlush l .disarm
  else if ln.complete w then s.startFlush l .complete
  else s

/-- The slot write (R48, R49, R50). -/
def State.slotWrite (s : State) (h : HeldBeat) (l : LineId) (v : Stored) : State :=
  let old := s.line l
  let ln := old.target h
  let t := s.setLine l { ln with slots := ln.slots.set h.slot (some v), mark := s.mirror.enqueued, idle := 0 }
  let t := if old.state == .free then { t with gather := { t.gather with age := t.gather.age ++ [l] } } else t
  let t := t.slotCounts (s.win h.window) v ln.slots[h.slot]
  (t.reportWrite h.window).flushAfterWrite l

/-- The beat's value is in its slot and the beat is done (R49, Table 8-2). -/
def State.placed (s : State) (h : HeldBeat) (l : LineId) (v : Stored) : State := (s.slotWrite h l v).endBeat h.beat (.done 0)

/-- The lines an exhaustion claim names (R59): those of adaptive windows whose range overlaps the lookup's. -/
def State.exhaustNames (s : State) (w : WindowId) (ln : Line) : Bool :=
  (s.win ln.window).adaptive && (s.win ln.window).rangesOverlap (s.win w)

/-- The exhaustion claim (R59, R84): its flushes start and the beat waits on the wait set; its next lookup is the retry. -/
def State.exhaustClaim (s : State) (h : HeldBeat) : State :=
  let p := s.exhaustNames h.window
  let t := s.claim p .exhaust
  t.holdBeat { h with retry := true, wait := .flushes (t.waitSet p) }

/-- An attempt with its target line found (R46, R47). -/
def State.store (s : State) (h : HeldBeat) (l : LineId) : State :=
  match s.choose h with
  | .value v => s.placed h l v
  | .allocate e => (s.allocateEntry e (pixelColour h.word)).placed h l ((s.win h.window).indexOf e)
  | .fault c => s.endBeat h.beat (.fault c)
  | .space => s.holdBeat { h with wait := .space }
  | .claim => s.exhaustClaim h

/-- A placement attempt (R46, R51, R52). -/
def State.attemptCore (s : State) (h : HeldBeat) : State :=
  match s.findLine h.window h.group with
  | some l => if (s.line l).state == .gathering then s.store h l else s.holdBeat { h with wait := .line l }
  | none =>
    match s.freeLineId with
    | some l => s.store h l
    | none => s.evict.holdBeat { h with wait := .anyLine }

/-- A placement attempt; a place in reserve that it has not used is given up when it ends (R107). -/
def State.attempt (s : State) (h : HeldBeat) : State := (s.attemptCore h).dropReserve

/-- The wait of a held beat is over (R47, R51, R52, R55, R82). -/
def State.retryReady (s : State) (h : HeldBeat) : Bool :=
  match h.wait with
  | .line l => (s.line l).state == .free
  | .anyLine => s.freeLineId.isSome
  | .space => s.mirror.link == .detached || s.mirror.reserve
  | .flushes set => set.isEmpty

end Sys2Proof.Machine
end

