-- ==== Sys2Proof/Machine/Settle.lean ====
section
/-! DEFINITION. What one event sets off in the same event (log entry 2): each consequence is an operation of its own, none
where its condition does not hold, and `settle` takes them until none is left. -/

namespace Sys2Proof.Machine

/-- A line's mirror wait is satisfied (R65, R112): it goes to WRITE_WAIT. -/
def State.mirrorWaitEvent (s : State) (l : LineId) : Option State :=
  let ln := s.line l
  if ln.state == .flushing && ln.phase == some .mirrorWait && s.mirror.satisfied ln.mark then
    some (s.setLine l { ln with phase := some .writeWait, issued := false })
  else none

/-- The flush engine presents the request of the line nearest the head of the flush order (R62). -/
def State.presentEvent (s : State) : Option State :=
  if s.gather.present.isSome then none
  else
    match s.gather.order.find? (fun l => (s.lineRequest l).isSome) with
    | some l => some { s with gather := { s.gather with present := some l } }
    | none => none

/-- The fill's announcement (R29, R106): none while DETACHED, and the first phase ends; enqueued when the queue has a place. -/
def State.fillAnnounceEvent (s : State) : Option State :=
  match s.announcing with
  | none => none
  | some f =>
    if s.mirror.link == .detached then some { s with engine := .filling { f with phase := .writing } }
    else if s.mirror.hasRoom then some (s.fillEnqueue f)
    else none

/-- The fill's mirror wait is satisfied and its writes begin (R29, R30, R112). -/
def State.fillPhase2Event (s : State) : Option State :=
  match s.engine with
  | .filling f =>
    match f.phase with
    | .sending seq =>
      if s.mirror.satisfied seq && !f.aborted then some { s with engine := .filling { f with phase := .writing } } else none
    | _ => none
  | _ => none

/-- The scan's wait set is empty and its reads begin (R139). -/
def State.scanReadingEvent (s : State) : Option State :=
  if s.scan.state == .flushing && s.scan.wait.isEmpty then some { s with scan := { s.scan with state := .reading } } else none

/-- The run's wait set is empty and it presents its pieces (R154). -/
def State.runIssueEvent (s : State) : Option State :=
  match s.host.handling with
  | none => none
  | some h =>
    match h.activity with
    | .running r =>
      if r.wait.isEmpty && !r.presenting then
        some (s.mapHandling (fun h => { h with activity := .running { r with presenting := true } }))
      else none
    | _ => none

/-- A request presented while the link is HALTED is answered ERROR at once (R124). Where several blocks present in one event, R124 gives
no order between them: the model takes that of R125, so the records of lines come before that of a fill or a release (log entry 27). -/
def State.haltedEvent (s : State) : Option State :=
  if s.link.halted then
    match s.gather.present with
    | some l => some (s.flushFail l)
    | none =>
      if s.hostRequest.isSome then some (s.mapHandling Handling.refused)
      else
        match s.engineRequest with
        | some (req, _) => some (s.engineFail req.addr).engineFinish
        | none => if s.scanRequest.isSome then some (s.scanEnd .memError 0) else none
  else none

/-- The wait set of FLUSH_ALL is empty (R169). -/
def State.flushAllEvent (s : State) : Option State :=
  if s.port.action.running == some (.flushAll []) then
    some { s with port := { s.port with action := { s.port.action with running := none } } }
  else none

/-- Steps 6 and 7 of a soft reset (R172, R20, R74, R116, R118, R133, R147, R158, R179). -/
def State.softResetEnd (s : State) : State :=
  let t := s.detach
  { t with
    windows := t.windows.map (fun w => { w with state := .off })
    colour := t.colour.clearCounts
    mirror := { t.mirror with lost := false }
    link := { halted := false, outstanding := [] }
    scan := { t.scan with results := [] }
    faults := { records := [], overflow := false }
    port := { t.port with action := { t.port.action with running := none } }
    host := HostSide.takeWaiting { t.host with taking := true } }

/-- The wait of step 5 is over (R133, R171). -/
def State.softResetEvent (s : State) : Option State :=
  if s.inSoftReset && s.link.outstanding.isEmpty then some s.softResetEnd else none

/-- The wait of a held beat is over: a fresh attempt begins (R47), after the failed flushes and the failed fill of the same event (log entry 31). -/
def State.retryEvent (s : State) : Option State :=
  match s.host.handling with
  | none => none
  | some h =>
    match h.activity with
    | .placing b => if s.retryReady b then some (s.attempt b) else none
    | _ => none

/-- A draining non-adaptive window with no line and no held beat goes OFF (R35). -/
def State.drainEvent (s : State) (w : WindowId) : Option State :=
  if (s.win w).state == .draining && !(s.win w).adaptive && !s.windowHasLine w && !s.holdsBeat w && !s.inSoftReset then
    some (s.setWindowState w .off)
  else none

/-- Phase 1 of a release ends: the release pointer is set to mbase and the reads begin (R36). -/
def State.release2Event (s : State) : Option State :=
  match s.engine with
  | .releasing r =>
    if !r.reading && !s.windowHasLine r.window && !s.holdsBeat r.window then
      let lo := (s.win r.window).memLo
      some { s with engine := .releasing { r with reading := true, next := lo, pointer := lo } }
    else none
  | _ => none

/-- A beat is done (Table 8-2). -/
def BeatResult.isDone : BeatResult → Bool
  | .done _ => true
  | .fault _ => true
  | _ => false

/-- The last beat is done: the response is issued (R157). -/
def State.responseEvent (s : State) : Option State :=
  match s.host.handling, s.headRequest with
  | some h, some r =>
    if h.activity == .ready && decide (h.results.length ≤ h.next) && h.results.all BeatResult.isDone then
      some (s.respond (responseOf r h.results))
    else none
  | _, _ => none

/-- The lowest-numbered pending ARMED window (R138). -/
def State.scanCandidate (s : State) : Option WindowId := allWindows.find? (fun w => (s.win w).state == .armed && (s.win w).pending)

/-- A scan of a window starts (R138, R139): pending and dirty are cleared, the trigger is kept with the scan, and the flush claim is
made. The window's own trigger keeps its value while pending is clear: the model's choice (log entry 28). -/
def State.scanBegin (s : State) (w : WindowId) : State :=
  let x := s.win w
  let t := s.setWin w { x with pending := false, dirty := false }
  let t := t.claim (fun ln => ln.window == w) .scan
  { t with
    scan :=
      { t.scan with
        state := .flushing, window := w, trigger := x.trigger, disturbed := false, crc := crcStart,
        wait := t.waitSet (fun ln => ln.window == w), next := x.memLo, kept := [] } }

/-- The scan unit starts a scan as soon as its conditions hold (R138). -/
def State.scanStartEvent (s : State) : Option State :=
  if s.scan.state == .idle && decide (s.scan.results.length < Config.resultPlaces) && !s.inSoftReset then
    s.scanCandidate.map s.scanBegin
  else none

/-- The first consequence that is open, in the model's order (log entry 2). Between blocks that one event reaches the spec gives no
order: the failures of flushes and of a fill, with their count events and the lines they free, come before the fresh attempt of a held beat,
and the start of a scan comes last (the model's choice, log entries 27 and 31). -/
def State.consequence (s : State) : Option State :=
  (s.gather.order.findSome? s.mirrorWaitEvent) <|> s.presentEvent <|> s.fillAnnounceEvent <|> s.fillPhase2Event
    <|> s.scanReadingEvent <|> s.runIssueEvent <|> s.haltedEvent <|> s.flushAllEvent <|> s.softResetEvent <|> s.retryEvent
    <|> (allWindows.findSome? s.drainEvent) <|> s.release2Event <|> s.responseEvent <|> s.scanStartEvent

/-- Consequences are taken, at most n of them. -/
def State.settleFor : Nat → State → State
  | 0, s => s
  | n + 1, s =>
    match s.consequence with
    | some t => State.settleFor n t
    | none => s

/-- The bound on the consequences of one event; a chain ends well before it (log entry 2). -/
def settleBound : Nat := 256

/-- The state when an event has ended: every consequence that the spec puts in the same event has been taken. -/
def State.settle (s : State) : State := State.settleFor settleBound s

/-- No consequence is open. -/
def State.settled (s : State) : Bool := s.consequence.isNone

/-- The outcome of an event whose condition may not hold: where it does, the event and its consequences; where it does not,
the event does not occur and nothing changes (log entry 1). -/
def eventOutcome (s : State) (e : Option State) : Host.Outcome State Fault Refusal :=
  .next (match e with
    | some t => t.settle
    | none => s)

end Sys2Proof.Machine
end

