-- ==== Sys2Proof/Machine/Actions.lean ====
section
/-! DEFINITION. The actions (Section 9.6), the soft reset (Section 9.7) and the device reset (R174). -/

namespace Sys2Proof.Machine

/-- What the rule of an action answers (R167). -/
inductive Verdict where
  | accept (t : State)
  | refuse (r : Reason)
deriving DecidableEq, Repr

/-! ### ARM (R21, R26 to R28, R155) -/

/-- The validity checks of R21. -/
def Window.valid (x : Window) : Bool :=
  x.hbase.toNat % 64 == 0 && decide (x.hostHi ≤ 2 ^ 32) && x.mbase.toNat % 8 == 0 && decide (x.memHi ≤ 2 ^ 32) &&
    decide (16 ≤ x.pixels.toNat) && decide (x.pixels.toNat ≤ 4194304) && x.pixels.toNat % 16 == 0 &&
    (fmtOfCode x.format).isSome && decide (x.round.toNat ≤ 1) && decide (x.fill.toNat ≤ 1) &&
    decide (x.tableMode.toNat ≤ 1) && decide (x.policy.toNat ≤ 1) && decide (x.partition.toNat ≤ 15) &&
    (!(x.adaptive && x.format == 4) || decide (x.fillEntry.toNat ≤ 15))

/-- A window's host or memory range meets that of another window that is not OFF (R26). -/
def State.meetsOther (s : State) (w : WindowId) : Bool :=
  allWindows.any (fun v => v != w && (s.win v).inUse &&
    (overlaps (s.win w).hostLo (s.win w).hostHi (s.win v).hostLo (s.win v).hostHi ||
      overlaps (s.win w).memLo (s.win w).memHi (s.win v).memLo (s.win v).memHi))

/-- The record at the acceptance of an ARM (R27, R28, R135). The trigger keeps its value: the model's choice (log entry 28). -/
def Window.armed (x : Window) (st : WindowState) : Window :=
  { x with state := st, epoch := 0, dirty := false, pending := false, timer := .idle }

/-- Ingress at the ARM of an adaptive window (R155): a WRITE run that meets its memory keeps the pieces issued, and its other
beats fault GUARD. -/
def Handling.armGuard (h : Handling) (lo hi : Nat) : Handling :=
  match h.activity with
  | .running r =>
    if r.write && overlaps r.lo r.hi lo hi then
      match r.pieces with
      | [] => h
      | p :: _ => (h.setResults p.first r.last (.fault .guard)).goOn (r.last + 1)
    else h
  | _ => h

/-- Data read for a window's earlier arming serves no beat of the new one (log entry 8). -/
def Handling.forget (h : Handling) (w : WindowId) : Handling := { h with reads := h.reads.filter (fun r => r.window != w) }

/-- ARM of a non-adaptive window accepted (R27). -/
def State.armPlain (s : State) (w : WindowId) : State :=
  (s.setWin w ((s.win w).armed .armed)).mapHandling (·.forget w)

/-- ARM of an adaptive window accepted (R28, R89, R155): the engine is taken and the fill entry's count rises. -/
def State.armAdaptive (s : State) (w : WindowId) : State :=
  let x := s.win w
  let t := s.setWin w (x.armed .arming)
  let t := { t with
    colour := t.colour.addCount x.fillEntryId x.pixels.toNat
    engine := .filling { window := w, phase := .announce, next := x.memLo, failed := none, aborted := false } }
  t.mapHandling (fun h => (h.forget w).armGuard x.memLo x.memHi)

/-- ARM (R26). -/
def State.judgeArm (s : State) (w : WindowId) : Verdict :=
  let x := s.win w
  if x.inUse then .refuse .busy
  else if !x.valid then .refuse .invalid
  else if s.meetsOther w then .refuse .overlap
  else if !x.adaptive then .accept (s.armPlain w)
  else if s.engine ≠ .idle then .refuse .engineBusy
  else .accept (s.armAdaptive w)

/-! ### DISARM (R33 to R36, R135, R144) -/

/-- What every accepted DISARM does: pending is cleared, the quiet timer becomes IDLE, and a scan of the window ends. The trigger keeps
its value: the model's choice (log entry 28). -/
def State.disarmed (s : State) (w : WindowId) : State :=
  (s.setWin w { s.win w with pending := false, timer := .idle }).scanAbort w

/-- The fill of the window is aborted, unless it has failed already (R33). -/
def State.abortFill (s : State) (w : WindowId) : State :=
  match s.engine with
  | .filling f =>
    if f.window = w ∧ f.failed = none then State.engineFinish { s with engine := .filling { f with aborted := true } } else s
  | _ => s

/-- The window goes to DRAINING and its GATHERING lines start flushing (R35, R36, R57). -/
def State.drain (s : State) (w : WindowId) : State := (s.setWindowState w .draining).claim (fun ln => ln.window == w) .disarm

/-- The engine is taken for the window's release (R36). -/
def State.takeRelease (s : State) (w : WindowId) : State :=
  let lo := (s.win w).memLo
  { s with engine := .releasing { window := w, reading := false, next := lo, pointer := lo, failed := none } }

/-- DISARM (R34). -/
def State.judgeDisarm (s : State) (w : WindowId) : Verdict :=
  let x := s.win w
  match x.state with
  | .off => .accept (s.disarmed w)
  | .arming => .accept ((s.disarmed w).abortFill w)
  | .draining => .refuse .busy
  | .armed =>
    if !x.adaptive then .accept ((s.disarmed w).drain w)
    else if s.engine ≠ .idle then .refuse .engineBusy
    else .accept (((s.disarmed w).drain w).takeRelease w)

/-! ### SCAN, FLUSH_ALL, the mirror actions, RECOUNT and the pops -/

/-- SCAN (R137). -/
def State.judgeScan (s : State) (w : WindowId) : Verdict :=
  let x := s.win w
  if x.state ≠ .armed then .refuse .notArmed
  else if x.pending then .accept s
  else .accept (s.setWin w { x with pending := true, trigger := .command })

/-- FLUSH_ALL (R60, R169): an empty wait set completes it in the same event, by `settle`. -/
def State.judgeFlushAll (s : State) : Verdict :=
  let t := s.claim (fun _ => true) .flushAll
  .accept { t with port := { t.port with action := { t.port.action with running := some (.flushAll (t.waitSet (fun _ => true))) } } }

/-- MIRROR_ATTACH (R108). -/
def State.judgeAttach (s : State) : Verdict :=
  if s.mirror.link ≠ .detached then .refuse .busy
  else
    .accept { s with
      mirror := Mirror.enqueue
        { s.mirror with credits := 0, lost := false, link := .resync, pointer := 0, walk := .entries, stall := 0 }
        .resyncBegin 0 Colour.black }

/-- MIRROR_DETACH (R115). -/
def State.judgeDetach (s : State) : Verdict := if s.mirror.link = .detached then .accept s else .accept s.detach

/-- RECOUNT (R99, R100). -/
def State.judgeRecount (s : State) : Verdict :=
  if allWindows.any (fun w => (s.win w).adaptive && (s.win w).inUse) then .refuse .busy
  else .accept { s with colour := s.colour.clearCounts }

/-- The fault queue without its head (R177). -/
def FaultQueue.pop (q : FaultQueue) : FaultQueue :=
  match q.records with
  | [] => q
  | [_] => { records := [], overflow := false }
  | _ :: rest => { q with records := rest }

/-- FAULT_POP (R177). -/
def State.judgeFaultPop (s : State) : Verdict := .accept { s with faults := s.faults.pop }

/-- RESULT_POP (R146). -/
def State.judgeResultPop (s : State) : Verdict := .accept { s with scan := { s.scan with results := s.scan.results.tail } }

/-! ### SOFT_RESET (R170, Table 9-6) -/

/-- Step 4 for a window: dirty and pending are cleared and the quiet timer becomes IDLE (R147). The trigger keeps its
value: the model's choice (log entry 28). -/
def Window.softReset (x : Window) : Window := { x with dirty := false, pending := false, timer := .idle }

/-- Steps 1 to 4 (R170, R158, R72, R41, R147): the host link stops, its requests are answered RESET in the order taken, lines
are discarded, and the engine's and scan unit's operations are abandoned. -/
def State.softResetBegin (s : State) : State :=
  { s with
    host := { s.host with taking := false, queue := [], handling := none }
    out := { s.out with responses := s.out.responses ++ s.host.queue.map (fun r => faultResponse r .reset) }
    gather := { lines := Vector.replicate 8 Line.blank, age := [], order := [], present := none }
    engine := .idle
    scan := { s.scan with state := .idle, wait := [], kept := [] }
    windows := s.windows.map Window.softReset
    port := { s.port with action := { s.port.action with running := some .softReset } } }

/-- SOFT_RESET (R170): an empty outstanding list ends it in the same event, by `settle`. -/
def State.judgeSoftReset (s : State) : Verdict := .accept s.softResetBegin

/-! ### The commit of an action (R167, R168) -/

/-- The window that an operand names. -/
def operandWindow (v : Byte) : WindowId := Fin.ofNat 8 v.toNat

/-- The rule of the action with a code from 01h to 0Ah (Table 9-5). -/
def State.ownRule (s : State) (code v : Byte) : Verdict :=
  match code.toNat with
  | 1 => s.judgeArm (operandWindow v)
  | 2 => s.judgeDisarm (operandWindow v)
  | 3 => s.judgeScan (operandWindow v)
  | 4 => s.judgeFlushAll
  | 5 => s.judgeAttach
  | 6 => s.judgeDetach
  | 7 => s.judgeRecount
  | 8 => s.judgeFaultPop
  | 9 => s.judgeResultPop
  | _ => s.judgeSoftReset

/-- The first condition of R167 that holds decides. -/
def State.judge (s : State) (code v : Byte) : Verdict :=
  if s.port.action.running.isSome then .refuse .busy
  else if code = 0 ∨ 10 < code.toNat then .refuse .unknown
  else if code.toNat ≤ 3 ∧ 7 < v.toNat then .refuse .invalid
  else s.ownRule code v

/-- The action status after a commit (R168). -/
def State.noteAction (s : State) (o : ActionOutcome) (r : Option Reason) (code : Byte) : State :=
  { s with port := { s.port with action := { s.port.action with outcome := o, reason := r, code := code } } }

/-- A commit: the action is judged and, where accepted, begun (R167, R168). -/
def State.commitAction (s : State) (code v : Byte) : State :=
  match s.judge code v with
  | .refuse r => s.noteAction .refused (some r) code
  | .accept t => t.noteAction .accepted none code

/-- The stream of a write transaction that has just committed an action (log entry 12). -/
def actionStream : Stream :=
  { write := true, region := some .action, next := 0x0022, ended := false, staged := [], capture := none }

/-- What SDO has carried in that transaction: 00h in bytes 0 to 4 (R159). -/
def actionSdo : List Byte := List.replicate 5 0

/-- An action row: the operand byte with the row's code staged before it in its transaction; ignored in a void transaction
(R159; log entry 12). -/
def State.actionCommand (s : State) (code v : Byte) : State :=
  if s.port.txn = .void then s.shiftOut 0
  else
    ((s.setSdo (some actionSdo)).setTxn (.data actionStream)).commitAction code v

/-- ARM (R26). -/
def execArm (v : Byte) (s : State) : Host.Outcome State Fault Refusal := .next (s.actionCommand 1 v).settle

/-- DISARM (R34). -/
def execDisarm (v : Byte) (s : State) : Host.Outcome State Fault Refusal := .next (s.actionCommand 2 v).settle

/-- SCAN (R137). -/
def execScan (v : Byte) (s : State) : Host.Outcome State Fault Refusal := .next (s.actionCommand 3 v).settle

/-- FLUSH_ALL (R60, R169). -/
def execFlushAll (v : Byte) (s : State) : Host.Outcome State Fault Refusal := .next (s.actionCommand 4 v).settle

/-- MIRROR_ATTACH (R108). -/
def execMirrorAttach (v : Byte) (s : State) : Host.Outcome State Fault Refusal := .next (s.actionCommand 5 v).settle

/-- MIRROR_DETACH (R115). -/
def execMirrorDetach (v : Byte) (s : State) : Host.Outcome State Fault Refusal := .next (s.actionCommand 6 v).settle

/-- RECOUNT (R99, R100). -/
def execRecount (v : Byte) (s : State) : Host.Outcome State Fault Refusal := .next (s.actionCommand 7 v).settle

/-- FAULT_POP (R177). -/
def execFaultPop (v : Byte) (s : State) : Host.Outcome State Fault Refusal := .next (s.actionCommand 8 v).settle

/-- RESULT_POP (R146). -/
def execResultPop (v : Byte) (s : State) : Host.Outcome State Fault Refusal := .next (s.actionCommand 9 v).settle

/-- SOFT_RESET (R170). -/
def execSoftReset (v : Byte) (s : State) : Host.Outcome State Fault Refusal := .next (s.actionCommand 10 v).settle

/-! ### Completions and the device reset -/

/-- FLUSH_ALL_COMPLETE (R169). -/
def execFlushAllComplete (s : State) : Host.Outcome State Fault Refusal := eventOutcome s s.flushAllEvent

/-- SOFT_RESET_COMPLETE (R172). -/
def execSoftResetComplete (s : State) : Host.Outcome State Fault Refusal := eventOutcome s s.softResetEvent

/-- The device reset (R174): the bridge as after reset; what the outputs carried, the memory behind the link, the free-value
counter and the waiting commands are not the bridge's to reset. Writes in flight may still be performed (log entry 6). -/
def State.deviceReset (s : State) : State :=
  let t := s.lateWrites
  { State.reset with
    out := { responses := s.out.responses, messages := s.out.messages, sdo := none }
    memory := t.memory, freeCount := t.freeCount, pending := s.pending }

/-- DEVICE_RESET (R174). -/
def execDeviceReset (s : State) : Host.Outcome State Fault Refusal := .next s.deviceReset

end Sys2Proof.Machine
end

