-- ==== Sys2Proof/Machine/Gather.lean ====
section
/-! DEFINITION. The gather buffer's own events (Chapter 3). -/

namespace Sys2Proof.Machine

/-- The idle timer of a line expires (R53). -/
def State.idleEvent (s : State) (l : LineId) : Option State := if s.idleDue l then some (s.startFlush l .idle) else none

/-- IDLE_EXPIRY (R53). -/
def execIdleExpiry (l : LineId) (s : State) : Host.Outcome State Fault Refusal := eventOutcome s (s.idleEvent l)

/-- MIRROR_WAIT_SATISFIED (R65). -/
def execMirrorWaitSatisfied (l : LineId) (s : State) : Host.Outcome State Fault Refusal := eventOutcome s (s.mirrorWaitEvent l)

end Sys2Proof.Machine
end

