-- ==== Sys2Proof/Machine/Host.lean ====
section
/-! DEFINITION. The host link: requests, the request-level check, beats, passthrough runs and responses (Chapter 8). -/

namespace Sys2Proof.Machine

/-- Table 11-10: the codes of the host fault causes. -/
def hostFaultCode : HostFault → Byte
  | .align => 1
  | .partialStrobes => 2
  | .notReady => 3
  | .guard => 4
  | .noEntry => 5
  | .exhausted => 6
  | .memory => 7
  | .reset => 8

/-- The cause that a response carries on the link, by its code; none for status OK (Table 8-1, R182). -/
def HostResponse.code (r : HostResponse) : Option Byte := r.cause.map hostFaultCode

/-- HOST_REQUEST (R148): the request joins those that wait on the link, and is taken if it can be. -/
def State.presentRequest (s : State) (r : HostRequest) : State :=
  { s with host := HostSide.takeWaiting { s.host with waiting := s.host.waiting ++ [r] } }

def execHostRequest (r : HostRequest) (s : State) : Host.Outcome State Fault Refusal :=
  .next (s.presentRequest r).settle

/-! ### The request-level check (R149) -/

/-- The address of beat 0 is a multiple of 4 and the beats stay within one aligned 4 KiB block. -/
def requestAligned (r : HostRequest) : Bool :=
  (requestAddr r).toNat % 4 == 0 && (requestAddr r).toNat / 4096 == requestBeatAddr r (requestLength r - 1) / 4096

/-- Handling of a request that has passed its check (R150). -/
def Handling.begin (r : HostRequest) : Handling :=
  { next := 0, results := List.replicate (requestLength r) .todo, activity := .ready, reads := [] }

/-- REQUEST_HANDLING (R149): the head request is checked; where it fails it is answered ALIGN at once. -/
def State.requestEvent (s : State) : Option State :=
  match s.host.handling, s.headRequest with
  | none, some r =>
    if requestAligned r then some { s with host := { s.host with handling := some (Handling.begin r) } }
    else some (s.respond (faultResponse r .align))
  | _, _ => none

def execRequestHandling (s : State) : Host.Outcome State Fault Refusal := eventOutcome s s.requestEvent

/-! ### Classification (R24) -/

/-- The class of a beat. -/
inductive BeatClass where
  | passthrough
  | translated (w : WindowId)
  | notReady
deriving DecidableEq, Repr

/-- The window that is not OFF and whose host range holds the address; host ranges are disjoint (R23). -/
def State.windowAt (s : State) (a : Nat) : Option WindowId := allWindows.find? (fun w => (s.win w).inUse && (s.win w).inHost a)

/-- A beat is classified by its address against the windows as they stand (R24). -/
def State.classify (s : State) (a : Nat) : BeatClass :=
  match s.windowAt a with
  | none => .passthrough
  | some w => if (s.win w).state == .armed then .translated w else .notReady

/-! ### Translated beats (R151, R152) -/

/-- The write beat as it is handed to placement (R46). -/
def State.newBeat (s : State) (w : WindowId) (i : Nat) (word : Word32) : HeldBeat :=
  let a := s.beatAddr i
  { beat := i, window := w, group := (s.win w).groupOf a, slot := (s.win w).slotOf a, word := word, retry := false, wait := .anyLine }

/-- A translated write beat, judged by its strobes (R151). -/
def State.writeBeat (s : State) (w : WindowId) (i : Nat) (b : WriteBeat) : State :=
  if b.strobes = 15 then s.attempt (s.newBeat w i b.data)
  else if b.strobes = 0 then s.endBeat i (.done 0)
  else s.endBeat i (.fault .partialStrobes)

/-- The stored value that a line holds for a slot of a group (R69). -/
def State.forwarded (s : State) (w : WindowId) (g : Nat) (i : SlotId) : Option Stored :=
  match s.findLine w g with
  | some l => (s.line l).slots[i]
  | none => none

/-- The group read that serves the beats of a group (R70; log entry 8). -/
def Handling.readOf (h : Handling) (w : WindowId) (g : Nat) : Option GroupRead :=
  h.reads.find? (fun r => r.window == w && r.group == g)

/-- A translated read beat that no line answers: served by its group's read, or by a new one that ingress presents (R70,
R152). A beat that is handled after its group's read has returned takes the data of that read (log entry 8), and is decoded in the event
in which it is handled, an indexed pixel with the entry's colour at that moment: the model's choice (log entry 30). -/
def State.groupRead (s : State) (h : Handling) (w : WindowId) (g : Nat) (i : Nat) : State :=
  match h.readOf w g with
  | some r =>
    match r.status with
    | .returned d => s.endBeat i (.done (s.decodeBeat w d i))
    | .failed => s.endBeat i (.fault .memory)
    | .presented => s.endBeat i (.awaiting r.id)
    | .outstanding => s.endBeat i (.awaiting r.id)
  | none =>
    s.mapHandling (fun h =>
      { h.setResults i i (.awaiting i) with
        activity := .reading i
        reads := h.reads ++ [{ id := i, window := w, group := g, status := .presented }] })

/-- A translated read beat (R69, R70, R152). -/
def State.readBeat (s : State) (h : Handling) (w : WindowId) (i : Nat) : State :=
  let a := s.beatAddr i
  let g := (s.win w).groupOf a
  match s.forwarded w g ((s.win w).slotOf a) with
  | some v => s.endBeat i (.done ((s.win w).decode s.colour v))
  | none => s.groupRead h w g i

/-! ### Passthrough runs (R153, R154) -/

/-- The last beat of the run that begins at beat i: the beats after it are classified until one is not passthrough. -/
def State.runLast (s : State) (r : HostRequest) : Nat → Nat → Nat
  | 0, i => i
  | n + 1, i =>
    if i + 1 < requestLength r ∧ s.classify (requestBeatAddr r (i + 1)) = .passthrough then s.runLast r n (i + 1) else i

/-- Byte j of a write piece whose first beat is `first`: the data of the beat that holds the address, and whether its strobe
is set; a byte outside the beats has its mask clear (R153). Its data byte, which R153 does not give, is 00h: a DESIGN CHOICE of the
model (log entry 26), without effect, since a byte whose mask is clear is left as memory holds it (R120). -/
def pieceByte (r : HostRequest) (first last base j : Nat) : Byte × Bool :=
  let a := base + j
  let lo := requestBeatAddr r first
  if lo ≤ a ∧ a < requestBeatAddr r last + 4 then
    let k := (a - lo) % 4
    let b := requestBeat r (first + (a - lo) / 4)
    (b.data.extractLsb' (8 * k) 8, b.strobes.getLsbD k)
  else (0, false)

/-- The memory request of the piece of beats first to last (R153). -/
def pieceRequest (r : HostRequest) (first last : Nat) : MemRequest :=
  let base := requestBeatAddr r first / 8 * 8
  let words := requestBeatAddr r last / 8 + 1 - base / 8
  if requestIsRead r then { write := false, addr := BitVec.ofNat 32 base, words, data := 0, mask := 0 }
  else
    { write := true, addr := BitVec.ofNat 32 base, words
      data := blockOf (8 * words) (fun j => (pieceByte r first last base j).1)
      mask := maskOf (8 * words) (fun j => (pieceByte r first last base j).2) }

/-- The last beat of the piece that begins at beat i: a piece ends at a 64-byte boundary or with the run (R153). -/
def pieceLast (r : HostRequest) (i last : Nat) : Nat := min last (i + (63 - requestBeatAddr r i % 64) / 4)

/-- The pieces of a run, in ascending address order. -/
def cutPieces (r : HostRequest) (last : Nat) : Nat → Nat → List Piece
  | 0, _ => []
  | n + 1, i =>
    if i ≤ last then
      let j := pieceLast r i last
      { first := i, last := j, req := pieceRequest r i j } :: cutPieces r last n (j + 1)
    else []

/-- The run of beats first to last. -/
def formRun (r : HostRequest) (first last : Nat) (wait : List LineId) : Run :=
  { write := !requestIsRead r, first := first, last := last, lo := requestBeatAddr r first, hi := requestBeatAddr r last + 4,
    pieces := cutPieces r last (requestLength r) first, wait := wait, presenting := false }

/-- A WRITE run meets the memory of an adaptive window that is not OFF (R154). -/
def State.guarded (s : State) (lo hi : Nat) : Bool :=
  allWindows.any (fun w => (s.win w).inUse && (s.win w).adaptive && overlaps lo hi (s.win w).memLo (s.win w).memHi)

/-- The group memory of a line shares a byte with the run (R56). -/
def State.lineOverlaps (s : State) (lo hi : Nat) (ln : Line) : Bool :=
  let w := s.win ln.window
  overlaps lo hi (w.groupAddr ln.group) (w.groupAddr ln.group + w.fmt.bytes)

/-- A passthrough beat: the run is formed, and faults GUARD or makes its overlap claim (R153, R154, R56). -/
def State.passBeat (s : State) (r : HostRequest) (i : Nat) : State :=
  let last := s.runLast r (requestLength r) i
  let lo := requestBeatAddr r i
  let hi := requestBeatAddr r last + 4
  if !requestIsRead r && s.guarded lo hi then s.mapHandling (fun h => (h.setResults i last (.fault .guard)).goOn (last + 1))
  else
    let t := s.claim (s.lineOverlaps lo hi) .overlap
    t.mapHandling (fun h => { h with activity := .running (formRun r i last (t.waitSet (s.lineOverlaps lo hi))) })

/-! ### The commands -/

/-- The next beat is handled under its class (R150, Table 8-2). -/
def State.handleBeat (s : State) (h : Handling) (r : HostRequest) (i : Nat) : State :=
  match s.classify (requestBeatAddr r i) with
  | .passthrough => s.passBeat r i
  | .notReady => s.endBeat i (.fault .notReady)
  | .translated w => if requestIsRead r then s.readBeat h w i else s.writeBeat w i (requestBeat r i)

/-- BEAT_HANDLE (R150): ingress is ready and a beat is left. -/
def State.beatEvent (s : State) : Option State :=
  match s.host.handling, s.headRequest with
  | some h, some r => if h.activity = .ready ∧ h.next < h.results.length then some (s.handleBeat h r h.next) else none
  | _, _ => none

def execBeatHandle (s : State) : Host.Outcome State Fault Refusal := eventOutcome s s.beatEvent

/-- PLACEMENT_RETRY (R47). -/
def execPlacementRetry (s : State) : Host.Outcome State Fault Refusal := eventOutcome s s.retryEvent

/-- RUN_ISSUE (R154). -/
def execRunIssue (s : State) : Host.Outcome State Fault Refusal := eventOutcome s s.runIssueEvent

/-- HOST_RESPONSE (R157). -/
def execHostResponse (s : State) : Host.Outcome State Fault Refusal := eventOutcome s s.responseEvent

end Sys2Proof.Machine
end

