-- ==== Sys2Proof/Machine/Memory.lean ====
section
/-! DEFINITION. The memory link: the issue arbiter, responses and the memory timeout (Chapter 6). -/

namespace Sys2Proof.Machine

/-! ### The issue arbiter (R125) -/

/-- The request that the flush engine presents (R62). -/
def State.flushRequest (s : State) : Option (MemRequest × Requester) :=
  match s.gather.present with
  | some l => s.lineRequest l
  | none => none

/-- The request that stands first in the fixed order: flush engine, host ingress, window engine, scan unit. -/
def State.firstPresented (s : State) : Option (MemRequest × Requester) :=
  s.flushRequest <|> s.hostRequest <|> s.engineRequest <|> s.scanRequest

/-- The requester learns that its request has been issued. -/
def State.markIssued (s : State) (q : Requester) : State :=
  match q with
  | .flushRead l => State.setLine { s with gather := { s.gather with present := none } } l { s.line l with issued := true }
  | .flushWrite l => State.setLine { s with gather := { s.gather with present := none } } l { s.line l with issued := true }
  | .hostGroup _ => s.mapHandling Handling.issued
  | .hostPiece _ => s.mapHandling Handling.issued
  | .posted => s.mapHandling Handling.issued
  | .fill => s.engineIssued
  | .release => s.engineIssued
  | .scan => { s with scan := { s.scan with next := s.scan.next + blockLength (s.win s.scan.window) s.scan.next } }

/-- A request joins the tail of the outstanding list (R122). -/
def State.joinOutstanding (s : State) (req : MemRequest) (q : Requester) : State :=
  { s with link := { s.link with outstanding := s.link.outstanding ++ [{ req := req, by' := q, age := 0 }] } }

/-- ISSUE_GRANT (R125): RUNNING, fewer than four outstanding, and a block presents. -/
def State.grantEvent (s : State) : Option State :=
  if s.link.halted = false ∧ s.link.outstanding.length < Config.outstandingPlaces then
    s.firstPresented.map (fun p => (s.markIssued p.2).joinOutstanding p.1 p.2)
  else none

def execIssueGrant (s : State) : Host.Outcome State Fault Refusal := eventOutcome s s.grantEvent

/-! ### Responses (R121, R122, R123, Table 6-2) -/

/-- The lowest byte of a request whose mask is set. -/
def MemRequest.lowestMasked (r : MemRequest) : Option Word32 :=
  ((List.range (8 * r.words)).find? (fun j => r.mask.getLsbD j)).map (fun j => r.addr + BitVec.ofNat 32 j)

/-- A posted write has failed (R127). Where no mask is set, the address is a free value (log entry 7). -/
def State.postedFail (s : State) (r : MemRequest) : State :=
  match r.lowestMasked with
  | some a => s.appendFault { FaultRecord.bare .postedWriteError with addr := some a }
  | none =>
    State.appendFault { s with freeCount := s.freeCount + 1 }
      { FaultRecord.bare .postedWriteError with addr := some (Config.unmaskedAddress s.freeCount) }

/-- An OK response is delivered to its requester. -/
def State.deliverOk (s : State) (o : Outstanding) (d : Block) : State :=
  match o.by' with
  | .flushRead l => s.flushReadDone l d
  | .flushWrite l => s.flushWriteDone l
  | .hostGroup id => s.groupReadDone id d
  | .hostPiece id => s.pieceReadDone id o.req d
  | .posted => s
  | .fill => s.engineFinish
  | .release => (s.releaseReadDone o.req d).engineFinish
  | .scan => s.scanReply o.req (some d)

/-- An ERROR is delivered to its requester; where `wait` holds, the engine's end is left to a later step of the event. -/
def State.deliverError (s : State) (o : Outstanding) (wait : Bool) : State :=
  match o.by' with
  | .flushRead l => s.flushFail l
  | .flushWrite l => s.flushFail l
  | .hostGroup id => s.groupReadFail id
  | .hostPiece id => s.pieceReadFail id
  | .posted => s.postedFail o.req
  | .fill => if wait then s.engineFail o.req.addr else (s.engineFail o.req.addr).engineFinish
  | .release => if wait then s.engineFail o.req.addr else (s.engineFail o.req.addr).engineFinish
  | .scan => s.scanReply o.req none

/-- A WRITE that returns OK has been performed (R121). -/
def State.performed (s : State) (o : Outstanding) : State :=
  if o.req.write then { s with memory := s.memory.perform o.req } else s

/-- The head leaves the list; the timeout examines the new head at the ticks that follow (R130). -/
def State.popHead (s : State) (rest : List Outstanding) : State :=
  { s with link := { s.link with outstanding := rest }, ripe := { s.ripe with timeout := false } }

/-- A stray response (R131). -/
def State.strayResponse (s : State) : State := s.appendFault (FaultRecord.bare .strayResponse)

/-- The effect of a response before what it sets off. A response during a soft reset is discarded, and a WRITE that returned
OK has taken effect (R133). -/
def State.respondMemory (s : State) (r : MemReply) : State :=
  match s.link.outstanding with
  | [] => s.strayResponse
  | o :: rest =>
    let t := s.popHead rest
    match r with
    | .ok ws => if s.inSoftReset then t.performed o else (t.performed o).deliverOk o (s.memory.reply o.req ws)
    | .error => if s.inSoftReset then t else t.deliverError o false

/-- MEMORY_RESPONSE (R122). -/
def execMemoryResponse (r : MemReply) (s : State) : Host.Outcome State Fault Refusal := .next (s.respondMemory r).settle

/-! ### The memory timeout (R128, R129) -/

/-- Step 2: the members complete as ERROR in issue order; during a soft reset they are discarded (R133). -/
def State.failAll (s : State) (wait : Bool) : List Outstanding → State
  | [] => s
  | o :: rest =>
    let t := s.popHead rest
    State.failAll (if s.inSoftReset then t else t.deliverError o wait) wait rest

/-- Step 4: the requests presented and not granted are answered ERROR, in the order of R125. `engine` says that the window
engine presented when the timeout expired (log entry 14). -/
def State.failPresented (s : State) (engine : Option (MemRequest × Requester)) : State :=
  let t := match s.gather.present with
    | some l => s.flushFail l
    | none => s
  let t := if t.hostRequest.isSome then t.mapHandling Handling.refused else t
  let t := match engine with
    | some (req, _) => (t.engineFail req.addr).engineFinish
    | none => t
  if t.scanRequest.isSome then t.scanEnd .memError 0 else t

/-- The expiry (R129). A write that the bridge gives up on may still be performed (R68; log entry 6). -/
def State.expireMemory (s : State) (head : Outstanding) : State :=
  let engine := s.engineRequest
  let t := (s.appendFault { FaultRecord.bare .memoryTimeout with addr := some head.req.addr }).lateWrites
  let t := t.failAll engine.isSome s.link.outstanding
  State.failPresented { t with link := { halted := true, outstanding := [] } } engine

/-- MEMORY_TIMEOUT (R129): the head's age has reached the memory timeout at a tick. -/
def State.timeoutEvent (s : State) : Option State :=
  match s.link.outstanding with
  | [] => none
  | o :: _ => if s.timeoutDue then some (s.expireMemory o) else none

def execMemoryTimeout (s : State) : Host.Outcome State Fault Refusal := eventOutcome s s.timeoutEvent

end Sys2Proof.Machine
end

