-- ==== Sys2Proof/Machine/Mirror.lean ====
section
/-! DEFINITION. The mirror link's own events (Chapter 5). -/

namespace Sys2Proof.Machine

/-- The head message begins its transmission (R104): not DETACHED, a credit held, and no transmission in progress. -/
def State.startEvent (s : State) : Option State :=
  if s.mirror.link ≠ .detached ∧ 0 < s.mirror.credits ∧ s.mirror.sending = false ∧ s.mirror.queue ≠ [] then
    some { s with mirror := { s.mirror with sending := true, credits := s.mirror.credits - 1 } }
  else none

/-- TRANSMISSION_START (R104). -/
def execTransmissionStart (s : State) : Host.Outcome State Fault Refusal := eventOutcome s s.startEvent

/-- Table 11-4: the codes of the message kinds. -/
def messageCode : MessageKind → Byte
  | .entry => 1
  | .resyncBegin => 2
  | .resyncEnd => 3

/-- The seven bytes that MDAT carries for a message, first byte first (Table 11-4). -/
def Message.bytes (m : Message) : List Byte :=
  [messageCode m.kind, m.seq.extractLsb' 8 8, m.seq.extractLsb' 0 8, BitVec.ofNat 8 m.entry.val, m.colour.r, m.colour.g,
    m.colour.b]

/-- The bytes that MDAT has carried: those of the messages sent, in their order (R104). -/
def Outputs.mdat (o : Outputs) : List Byte := o.messages.flatMap Message.bytes

/-- The head message has been sent (R104, R110): it leaves the queue, the sent counter takes its number, and RESYNC_END
attaches the link. -/
def State.sendHead (s : State) (m : Message) (rest : List Message) : State :=
  { s with
    mirror :=
      { s.mirror with
        queue := rest, sending := false, sent := m.seq
        link := if m.kind == .resyncEnd then .attached else s.mirror.link }
    out := { s.out with messages := s.out.messages ++ [m] } }

/-- A message is sent, and the place it frees is granted (R104, R107, R110). Open mirror waits are examined after the grant, so a queue
that the grant has refilled is not empty for them: the model's choice (log entry 29). -/
def State.sentEvent (s : State) : Option State :=
  match s.mirror.queue with
  | [] => none
  | m :: rest => if s.mirror.sending then some (s.sendHead m rest).grantPlace else none

/-- MESSAGE_SENT (R104). -/
def execMessageSent (s : State) : Host.Outcome State Fault Refusal := eventOutcome s s.sentEvent

/-- The resync generator takes a free place that no other claimant waits for (R107, R109). -/
def State.resyncEvent (s : State) : Option State :=
  if s.mirror.walking && s.mirror.hasRoom && s.colour.held.isEmpty && !s.beatWaitsSpace && s.announcing.isNone then
    some s.resyncNext
  else none

/-- RESYNC_ENQUEUE (R109). -/
def execResyncEnqueue (s : State) : Host.Outcome State Fault Refusal := eventOutcome s s.resyncEvent

/-- A credit event (R105): ignored in DETACHED; counted below 8; CREDIT_OVERFLOW at 8. It ends the stall condition (R113). -/
def State.credit (s : State) : State :=
  if s.mirror.link = .detached then s
  else if s.mirror.credits < Config.creditMax then
    { s with mirror := { s.mirror with credits := s.mirror.credits + 1, stall := 0 } }
  else s.appendFault (FaultRecord.bare .creditOverflow)

/-- CREDIT_EVENT (R105). -/
def execCreditEvent (s : State) : Host.Outcome State Fault Refusal := .next s.credit.settle

/-- The stall interval expires (R114): a detach, mirror-lost and a MIRROR_STALL record. The records that the detach leads to in the same
event, while the memory link is HALTED, come after it: the model's choice (log entry 27). -/
def State.stallEvent (s : State) : Option State :=
  if s.stallDue then
    let t := s.detach
    some (State.appendFault { t with mirror := { t.mirror with lost := true } } (FaultRecord.bare .mirrorStall))
  else none

/-- STALL_EXPIRY (R114). -/
def execStallExpiry (s : State) : Host.Outcome State Fault Refusal := eventOutcome s s.stallEvent

end Sys2Proof.Machine
end

