-- ==== Sys2Proof/WellFormed.lean ====
section
/-! DEFINITION. Which commands can come over the links of the bridge. -/

namespace Sys2Proof

/-- The beats a request has. -/
def HostRequest.beats : HostRequest → Nat
  | .read _ n => n
  | .write _ bs => bs.length

/-- A request has 1 to 16 beats (Table 8-1). -/
def HostRequest.wellFormed (r : HostRequest) : Bool :=
  decide (1 ≤ r.beats) && decide (r.beats ≤ 16)

/-- A reply carries at most eight words (R120). -/
def MemReply.wellFormed : MemReply → Bool
  | .ok ws => decide (ws.length ≤ 8)
  | .error => true

/-- The kind byte of a write transaction (Table 9-1). -/
def writeKind : Byte := 0x3A

/-- The kind byte of a read transaction (Table 9-1). -/
def readKind : Byte := 0x3B

/-- A kind byte that makes a transaction void (R159). -/
def voidKind (k : Byte) : Bool := k != writeKind && k != readKind

/-- The commands that can come. Every other operand is bounded by its type. -/
def Instr.wellFormed : Instr → Bool
  | .hostRequest r => r.wellFormed
  | .memoryResponse r => r.wellFormed
  | .voidTransaction k => voidKind k
  | .deviceReset | .requestHandling | .beatHandle | .placementRetry | .runIssue | .hostResponse | .issueGrant
  | .memoryTimeout | .idleExpiry _ | .mirrorWaitSatisfied _ | .drainComplete _ | .releasePhase2 | .fillAnnounce
  | .fillPhase2 | .transmissionStart | .messageSent | .resyncEnqueue | .creditEvent | .stallExpiry | .quietExpiry _
  | .scanStart | .scanReading | .flushAllComplete | .softResetComplete | .arm _ | .disarm _ | .scan _ | .flushAll _
  | .mirrorAttach _ | .mirrorDetach _ | .recount _ | .faultPop _ | .resultPop _ | .softReset _
  | .windowFieldCommit _ _ _ | .entryCommit _ _ | .globalWrite _ _ | .registerWrite _ _ | .readCapture _
  | .transactionEnd | .boundary _ => true

end Sys2Proof
end

