-- ==== Sys2Proof/Machine/Port.lean ====
section
/-! DEFINITION. The management port: streams, writes and commits, reads and captures (Chapters 9 and 11). -/

namespace Sys2Proof.Machine

/-! ### Regions (Table 9-2) -/

/-- The first address of a region. -/
def Region.base : Region → Nat
  | .id => 0x0000
  | .global => 0x0010
  | .action => 0x0020
  | .actionStatus => 0x0024
  | .status => 0x0030
  | .windows => 0x0100
  | .entries => 0x0400
  | .counts => 0x0800
  | .faultHead => 0x0C00
  | .resultHead => 0x0C10

/-- The bytes of a region. -/
def Region.size : Region → Nat
  | .id => 16
  | .global => 16
  | .action => 4
  | .actionStatus => 4
  | .status => 16
  | .windows => 256
  | .entries => 1024
  | .counts => 1024
  | .faultHead => 16
  | .resultHead => 16

/-- The address lies in the region. -/
def Region.contains (r : Region) (a : Half) : Bool := decide (r.base ≤ a.toNat) && decide (a.toNat < r.base + r.size)

/-- Every region. -/
def allRegions : List Region :=
  [.id, .global, .action, .actionStatus, .status, .windows, .entries, .counts, .faultHead, .resultHead]

/-- The region that holds an address; none where it is unmapped. -/
def regionOf (a : Half) : Option Region := allRegions.find? (fun r => r.contains a)

/-! ### Window record fields (Table 11-7) -/

/-- The offset of a field in its record. -/
def fieldOffset : WinField → Nat
  | .hbase => 0x00
  | .mbase => 0x04
  | .pixels => 0x08
  | .format => 0x0B
  | .round => 0x0C
  | .fill => 0x0D
  | .spare => 0x0E
  | .tableMode => 0x0F
  | .policy => 0x10
  | .partition => 0x11
  | .fillEntry => 0x12
  | .quiet => 0x13

/-- The bytes of a field. -/
def fieldBytes : WinField → Nat
  | .hbase => 4
  | .mbase => 4
  | .pixels => 3
  | .quiet => 2
  | _ => 1

/-- Every writable field. -/
def allFields : List WinField :=
  [.hbase, .mbase, .pixels, .format, .round, .fill, .spare, .tableMode, .policy, .partition, .fillEntry, .quiet]

/-- The writable field that an offset lies in. -/
def fieldAt (off : Nat) : Option WinField :=
  allFields.find? (fun f => decide (fieldOffset f ≤ off) && decide (off < fieldOffset f + fieldBytes f))

/-- The committed value of a field. -/
def Window.getField (x : Window) : WinField → Nat
  | .hbase => x.hbase.toNat
  | .mbase => x.mbase.toNat
  | .pixels => x.pixels.toNat
  | .format => x.format.toNat
  | .round => x.round.toNat
  | .fill => x.fill.toNat
  | .spare => x.spare.toNat
  | .tableMode => x.tableMode.toNat
  | .policy => x.policy.toNat
  | .partition => x.partition.toNat
  | .fillEntry => x.fillEntry.toNat
  | .quiet => x.quiet.toNat

/-- The record with a field's value replaced. -/
def Window.putField (x : Window) (f : WinField) (v : Nat) : Window :=
  match f with
  | .hbase => { x with hbase := BitVec.ofNat 32 v }
  | .mbase => { x with mbase := BitVec.ofNat 32 v }
  | .pixels => { x with pixels := BitVec.ofNat 24 v }
  | .format => { x with format := BitVec.ofNat 8 v }
  | .round => { x with round := BitVec.ofNat 8 v }
  | .fill => { x with fill := BitVec.ofNat 8 v }
  | .spare => { x with spare := BitVec.ofNat 8 v }
  | .tableMode => { x with tableMode := BitVec.ofNat 8 v }
  | .policy => { x with policy := BitVec.ofNat 8 v }
  | .partition => { x with partition := BitVec.ofNat 8 v }
  | .fillEntry => { x with fillEntry := BitVec.ofNat 8 v }
  | .quiet => { x with quiet := BitVec.ofNat 16 v }

/-! ### Bytes of items, lowest first -/

/-- The n bytes of a number, least significant first. -/
def bytesOf (n v : Nat) : List Byte := (List.range n).map (fun i => BitVec.ofNat 8 (v / 256 ^ i))

/-- The number that bytes make, least significant first. -/
def numberOf (bs : List Byte) : Nat := bs.foldr (fun b v => b.toNat + 256 * v) 0

/-- 01h for a set flag, 00h for a clear one. -/
def flagByte (b : Bool) : Byte := if b then 1 else 0

/-- Table 11-10: refusal reasons. -/
def reasonCode : Option Reason → Byte
  | none => 0
  | some .busy => 1
  | some .invalid => 2
  | some .overlap => 3
  | some .engineBusy => 4
  | some .notArmed => 5
  | some .inUse => 7
  | some .unknown => 8
  | some .unmapped => 9
  | some .readOnly => 0x0A
  | some .boundary => 0x0B

/-- Table 11-10: fault causes. -/
def faultCode : FaultCause → Byte
  | .lostWrite => 1
  | .postedWriteError => 2
  | .memoryTimeout => 3
  | .strayResponse => 4
  | .mirrorStall => 5
  | .creditOverflow => 6
  | .fillFailed => 7
  | .releaseFailed => 8

/-- Table 11-10: flush causes. -/
def flushCode : FlushCause → Byte
  | .complete => 1
  | .evict => 2
  | .idle => 3
  | .overlap => 4
  | .disarm => 5
  | .scan => 6
  | .exhaust => 7
  | .flushAll => 8

/-- Table 11-5: outcomes. -/
def outcomeCode : ActionOutcome → Byte
  | .none => 0
  | .accepted => 1
  | .refused => 2

/-- Table 11-6: mirror link states. -/
def linkCode : LinkState → Byte
  | .detached => 0
  | .resync => 1
  | .attached => 2

/-- Table 11-6: scan unit states. -/
def scanCode : ScanState → Byte
  | .idle => 0
  | .flushing => 1
  | .reading => 2
  | .aborting => 3

/-- Table 11-7: window states. -/
def windowCode : WindowState → Byte
  | .off => 0
  | .arming => 1
  | .armed => 2
  | .draining => 3

/-- Table 11-9: result statuses. -/
def statusCode : ResultStatus → Byte
  | .clean => 1
  | .disturbed => 2
  | .aborted => 3
  | .memError => 4

/-- Table 11-9: triggers. -/
def triggerCode : Trigger → Byte
  | .command => 1
  | .quiet => 2

/-- The bytes of the ID region (Table 11-5). -/
def idBytes : List Byte := [0x43, 0x56, 0x40, 0x00, 0x01, 0x08, 0x08, 0x00, 0x01]

/-- The bytes of the GLOBAL region (Table 11-5). -/
def Settings.bytes (g : Settings) : List Byte :=
  [g.prescale, g.gatherIdle, g.mirrorStall, g.memTimeout, g.enables.setWidth 8]

/-- The bytes of the ACTION STATUS region (Table 11-5). -/
def ActionStatus.bytes (a : ActionStatus) : List Byte :=
  [flagByte a.running.isSome, outcomeCode a.outcome, reasonCode a.reason, a.code]

/-- The four bytes of the last-refusal record (Table 11-6). -/
def LastRefusal.bytes (r : LastRefusal) : List Byte := reasonCode r.reason :: bytesOf 2 r.addr.toNat ++ [r.count]

/-- The bytes of the STATUS region (Table 11-6, R119). -/
def State.statusBytes (s : State) : List Byte :=
  [linkCode s.mirror.link, BitVec.ofNat 8 s.mirror.credits, BitVec.ofNat 8 s.mirror.queue.length, flagByte s.mirror.lost,
    flagByte s.link.halted, BitVec.ofNat 8 s.link.outstanding.length, flagByte s.colour.suspect,
    BitVec.ofNat 8 s.faults.records.length, flagByte s.faults.overflow, BitVec.ofNat 8 s.scan.results.length,
    scanCode s.scan.state] ++ s.port.refusal.bytes

/-- The bytes of a window record (Table 11-7). -/
def Window.bytes (x : Window) : List Byte :=
  allFields.flatMap (fun f => bytesOf (fieldBytes f) (x.getField f)) ++
    [windowCode x.state] ++ bytesOf 2 x.epoch.toNat ++ [flagByte x.dirty, flagByte x.pending]

/-- The bytes of an entry (Table 11-8, R97). -/
def Entry.bytes (x : Entry) : List Byte := [x.colour.r, x.colour.g, x.colour.b, flagByte x.pinned]

/-- The bytes of the FAULT HEAD region (Table 11-9, R184). -/
def FaultQueue.headBytes (q : FaultQueue) : List Byte :=
  match q.records with
  | [] => List.replicate 16 0
  | r :: _ =>
    [faultCode r.cause,
      flagByte r.window.isSome ||| (flagByte r.addr.isSome <<< 1) ||| (flagByte r.entry.isSome <<< 2) |||
        (flagByte r.flush.isSome <<< 3),
      BitVec.ofNat 8 ((r.window.map Fin.val).getD 0), BitVec.ofNat 8 ((r.entry.map Fin.val).getD 0)] ++
      bytesOf 4 ((r.addr.map BitVec.toNat).getD 0) ++ [(r.flush.map flushCode).getD 0] ++ List.replicate 7 0

/-- The bytes of the RESULT HEAD region (Table 11-9, R184). -/
def ScanUnit.headBytes (u : ScanUnit) : List Byte :=
  match u.results with
  | [] => List.replicate 16 0
  | r :: _ =>
    [statusCode r.status, BitVec.ofNat 8 r.window.val, triggerCode r.trigger, 0] ++ bytesOf 2 r.epoch.toNat ++ [0, 0] ++
      bytesOf 4 r.crc.toNat ++ List.replicate 4 0

/-- The current value of the byte at offset `off` of a region; a reserved byte reads 00h (R162, R183). -/
def State.regionByte (s : State) (r : Region) (off : Nat) : Byte :=
  match r with
  | .id => idBytes.getD off 0
  | .global => s.port.settings.bytes.getD off 0
  | .action => 0
  | .actionStatus => s.port.action.bytes.getD off 0
  | .status => s.statusBytes.getD off 0
  | .windows => (s.win (Fin.ofNat 8 (off / 32))).bytes.getD (off % 32) 0
  | .entries => (s.entry (Fin.ofNat 256 (off / 4))).bytes.getD (off % 4) 0
  | .counts => (bytesOf 4 (s.entry (Fin.ofNat 256 (off / 4))).count).getD (off % 4) 0
  | .faultHead => s.faults.headBytes.getD off 0
  | .resultHead => s.scan.headBytes.getD off 0

/-! ### Refusals (R165) -/

/-- A refusal is noted. -/
def State.noteRefusal (s : State) (r : Reason) (a : Half) : State :=
  { s with port := { s.port with refusal := { reason := some r, addr := a, count := s.port.refusal.count + 1 } } }

/-! ### Commits (R163) -/

/-- The bytes staged in a transaction, with their addresses. -/
abbrev Staged := List (Half × Byte)

/-- The byte staged for an address. -/
def stagedAt (st : Staged) (a : Nat) : Option Byte := (st.find? (fun p => p.1.toNat == a)).map Prod.snd

/-- The value a field takes at its commit: the commit byte, the staged bytes, and the field's current bytes for the rest
(R163). -/
def formField (x : Window) (st : Staged) (base : Nat) (f : WinField) (v : Byte) : Nat :=
  numberOf ((bytesOf (fieldBytes f) (x.getField f)).mapIdx
    (fun i b => if i + 1 = fieldBytes f then v else (stagedAt st (base + i)).getD b))

/-- The first address of a field (Table 11-7). -/
def fieldAddr (w : WindowId) (f : WinField) : Nat := 0x0100 + 32 * w.val + fieldOffset f

/-- The commit byte's address. -/
def commitAddr (w : WindowId) (f : WinField) : Half := BitVec.ofNat 16 (fieldAddr w f + fieldBytes f - 1)

/-- A field is committed (R19): the quiet interval is judged by its range, every other field by the window's state. -/
def State.commitField (s : State) (st : Staged) (w : WindowId) (f : WinField) (v : Byte) : State :=
  let x := s.win w
  let n := formField x st (fieldAddr w f) f v
  if f = .quiet then
    if n ≤ 4095 then s.setWin w (x.putField f n) else s.noteRefusal .invalid (commitAddr w f)
  else if x.state = .off then s.setWin w (x.putField f n)
  else s.noteRefusal .busy (commitAddr w f)

/-- The address of an entry's R byte (Table 11-8). -/
def entryAddr (e : EntryId) : Nat := 0x0400 + 4 * e.val

/-- The colour request of an entry commit (R92): none where no channel was staged. -/
def colourRequest (x : Entry) (st : Staged) (base : Nat) : Option Colour :=
  match stagedAt st base, stagedAt st (base + 1), stagedAt st (base + 2) with
  | none, none, none => none
  | r, g, b => some { r := r.getD x.colour.r, g := g.getD x.colour.g, b := b.getD x.colour.b }

/-- The colour request is judged (R93): refused for a LIVE entry, else taken and announced. -/
def State.requestColour (s : State) (e : EntryId) (c : Colour) : State :=
  if (s.entry e).isLive then s.noteRefusal .inUse (BitVec.ofNat 16 (entryAddr e + 3))
  else State.announceWrite { s with colour := s.colour.setEntry e { s.entry e with colour := c } } e

/-- The flags request (R94). -/
def State.requestFlags (s : State) (e : EntryId) (v : Byte) : State :=
  { s with colour := s.colour.setEntry e { s.entry e with pinned := v.getLsbD 0 } }

/-- An entry is committed: the colour request first, then the flags request (R92). -/
def State.commitEntry (s : State) (st : Staged) (e : EntryId) (v : Byte) : State :=
  match colourRequest (s.entry e) st (entryAddr e) with
  | some c => (s.requestColour e c).requestFlags e v
  | none => s.requestFlags e v

/-- The settings with one replaced (R166). -/
def Settings.put (g : Settings) (k : Setting) (v : Byte) : Settings :=
  match k with
  | .prescale => { g with prescale := v }
  | .gatherIdle => { g with gatherIdle := v }
  | .mirrorStall => { g with mirrorStall := v }
  | .memTimeout => { g with memTimeout := v }
  | .enables => { g with enables := v.setWidth 4 }

/-- A GLOBAL setting is always taken (R166). -/
def State.commitSetting (s : State) (k : Setting) (v : Byte) : State :=
  { s with port := { s.port with settings := s.port.settings.put k v } }

/-- The setting at an offset of the GLOBAL region (Table 11-5). -/
def settingAt (off : Nat) : Option Setting :=
  match off with
  | 0 => some .prescale
  | 1 => some .gatherIdle
  | 2 => some .mirrorStall
  | 3 => some .memTimeout
  | 4 => some .enables
  | _ => none

/-! ### A write data byte (R161, R162, R163) -/

/-- What a byte of a region is for a write: read-only or reserved, staged, or the commit byte of an item. -/
inductive WriteItem where
  | readOnly
  | stage
  | field (w : WindowId) (f : WinField)
  | entry (e : EntryId)
  | setting (k : Setting)
  | action
deriving DecidableEq, Repr

/-- The byte of a window record at an offset. -/
def windowItem (w : WindowId) (off : Nat) : WriteItem :=
  match fieldAt off with
  | none => .readOnly
  | some f => if off + 1 = fieldOffset f + fieldBytes f then .field w f else .stage

/-- The byte of a region at an offset. -/
def writeItem (r : Region) (off : Nat) : WriteItem :=
  match r with
  | .global =>
    match settingAt off with
    | some k => .setting k
    | none => .readOnly
  | .action => if off = 0 then .stage else if off = 1 then .action else .readOnly
  | .windows => windowItem (Fin.ofNat 8 (off / 32)) (off % 32)
  | .entries => if off % 4 = 3 then .entry (Fin.ofNat 256 (off / 4)) else .stage
  | _ => .readOnly

/-- The write stream with its staged bytes set. -/
def State.setStaged (s : State) (t : Stream) (st : Staged) : State := s.setTxn (.data { t with staged := st })

/-- The committed action code: the one staged in the transaction, else 00h (R167). -/
def stagedCode (st : Staged) : Byte := (stagedAt st 0x0020).getD 0

/-- A write byte within the stream's region (R162, R163): the staged bytes are dropped at a commit. -/
def State.writeWithin (s : State) (t : Stream) (r : Region) (a : Half) (v : Byte) : State :=
  match writeItem r (a.toNat - r.base) with
  | .readOnly => s.noteRefusal .readOnly a
  | .stage => s.setStaged t (t.staged ++ [(a, v)])
  | .field w f => (s.setStaged t []).commitField t.staged w f v
  | .entry e => (s.setStaged t []).commitEntry t.staged e v
  | .setting k => (s.setStaged t []).commitSetting k v
  | .action => (s.setStaged t []).commitAction (stagedCode t.staged) v

/-- The stream's use of the space ends; a staged item is discarded (R161, R163). -/
def Stream.stop (t : Stream) : Stream := { t with ended := true, staged := [] }

/-- A byte of an open write stream, whose next address has been advanced. -/
def State.writeStream (s : State) (t : Stream) (a : Half) (v : Byte) : State :=
  if t.ended then s
  else
    match t.region with
    | none => (s.setTxn (.data t.stop)).noteRefusal .unmapped a
    | some r => if r.contains a then s.writeWithin t r a v else (s.setTxn (.data t.stop)).noteRefusal .boundary a

/-- The stream that a data byte at an address begins (R161). -/
def Stream.start (write : Bool) (a : Half) : Stream :=
  { write := write, region := regionOf a, next := a, ended := false, staged := [], capture := none }

/-- The open stream of this direction whose next data byte has this address, if there is one. -/
def continuedStream (x : Transaction) (write : Bool) (a : Half) : Option Stream :=
  match x with
  | .data t => if t.write = write ∧ t.next = a then some t else none
  | _ => none

/-- The stream that a data byte belongs to: the open one if its direction and next address are the byte's, else a new
transaction's (log entry 11). -/
def streamFor (x : Transaction) (write : Bool) (a : Half) : Stream := (continuedStream x write a).getD (Stream.start write a)

/-- Where a data byte begins a new transaction, SDO begins with the bytes before it (R159; log entry 11). -/
def State.openByte (s : State) (write : Bool) (a : Half) : State :=
  if (continuedStream s.port.txn write a).isSome then s else s.setSdo (some (headerBytes write))

/-- A write data byte (R160, R161, R162). In a void transaction it is ignored (R159). -/
def State.writeByte (s : State) (a : Half) (v : Byte) : State :=
  if s.port.txn = .void then s.shiftOut 0
  else
    let t := { streamFor s.port.txn true a with next := a + 1 }
    (((s.openByte true a).shiftOut 0).setTxn (.data t)).writeStream t a v

/-! ### A read data byte (R160, R161, R164) -/

/-- The captured item that an address lies in: its first address and its length (R164). -/
def captureItem (r : Region) (a : Half) : Option (Half × Nat) :=
  let off := a.toNat - r.base
  match r with
  | .counts => some (BitVec.ofNat 16 (r.base + off / 4 * 4), 4)
  | .windows => if off % 32 = 0x16 ∨ off % 32 = 0x17 then some (BitVec.ofNat 16 (r.base + off / 32 * 32 + 0x16), 2) else none
  | .status => if 0x0B ≤ off ∧ off ≤ 0x0E then some (0x003B, 4) else none
  | .faultHead => some (0x0C00, 16)
  | .resultHead => some (0x0C10, 16)
  | _ => none

/-- The current bytes of an item. -/
def State.itemBytes (s : State) (r : Region) (base : Half) (n : Nat) : List Byte :=
  (List.range n).map (fun i => s.regionByte r (base.toNat - r.base + i))

/-- The value that a captured item's byte has for this transaction, if the item is captured (R164). -/
def captured (c : Option Capture) (base a : Half) : Option Byte :=
  match c with
  | some k => if k.base = base then k.bytes[a.toNat - base.toNat]? else none
  | none => none

/-- A read byte within the stream's region (R162, R164). -/
def State.readWithin (s : State) (t : Stream) (r : Region) (a : Half) : State :=
  let now := s.regionByte r (a.toNat - r.base)
  match captureItem r a with
  | none => s.shiftOut now
  | some (base, n) =>
    if a = base then (s.setTxn (.data { t with capture := some { base := base, bytes := s.itemBytes r base n } })).shiftOut now
    else s.shiftOut ((captured t.capture base a).getD now)

/-- A byte of an open read stream, whose next address has been advanced. -/
def State.readStream (s : State) (t : Stream) (a : Half) : State :=
  if t.ended then s.shiftOut 0
  else
    match t.region with
    | none => s.shiftOut 0
    | some r =>
      if r.contains a then s.readWithin t r a else ((s.setTxn (.data t.stop)).noteRefusal .boundary a).shiftOut 0

/-- A read data byte (R160, R161, R164). In a void transaction SDO carries 00h (R159). -/
def State.readByte (s : State) (a : Half) : State :=
  if s.port.txn = .void then s.shiftOut 0
  else
    let t := { streamFor s.port.txn false a with next := a + 1 }
    ((s.openByte false a).setTxn (.data t)).readStream t a

/-! ### The commands -/

/-- WINDOW_FIELD_COMMIT (R19): the commit byte of a field is written. -/
def execWindowFieldCommit (w : WindowId) (f : WinField) (v : Byte) (s : State) : Host.Outcome State Fault Refusal :=
  .next (s.writeByte (commitAddr w f) v).settle

/-- ENTRY_COMMIT (R92): the flags byte of an entry is written. -/
def execEntryCommit (e : EntryId) (v : Byte) (s : State) : Host.Outcome State Fault Refusal :=
  .next (s.writeByte (BitVec.ofNat 16 (entryAddr e + 3)) v).settle

/-- The address of a setting (Table 11-5). -/
def settingAddr : Setting → Half
  | .prescale => 0x0010
  | .gatherIdle => 0x0011
  | .mirrorStall => 0x0012
  | .memTimeout => 0x0013
  | .enables => 0x0014

/-- GLOBAL_WRITE (R166). -/
def execGlobalWrite (k : Setting) (v : Byte) (s : State) : Host.Outcome State Fault Refusal :=
  .next (s.writeByte (settingAddr k) v).settle

/-- REGISTER_WRITE (R162): a data byte is written at an address. -/
def execRegisterWrite (a : Half) (v : Byte) (s : State) : Host.Outcome State Fault Refusal := .next (s.writeByte a v).settle

/-- READ_CAPTURE (R164): a data byte is read from an address. -/
def execReadCapture (a : Half) (s : State) : Host.Outcome State Fault Refusal := .next (s.readByte a)

/-- The transaction ends (R159, R163, R164): a staged item and a capture are dropped, and SDO is no longer driven. -/
def State.endTxn (s : State) : State := (s.setSdo none).setTxn .none

/-- A transaction begins with a kind byte (R159): void and noted UNKNOWN for a kind that is neither 3Ah nor 3Bh. With one of
these the open transaction ends, and the data bytes that come begin theirs (log entry 18). -/
def State.beginKind (s : State) (k : Byte) : State :=
  if voidKind k then ((s.setSdo (some [0])).setTxn .void).noteRefusal .unknown 0 else s.endTxn

/-- VOID_TRANSACTION (R159). -/
def execVoidTransaction (k : Byte) (s : State) : Host.Outcome State Fault Refusal := .next (s.beginKind k)

/-- TRANSACTION_END (R159, R163, R164). -/
def execTransactionEnd (s : State) : Host.Outcome State Fault Refusal := .next s.endTxn

/-- BOUNDARY (R161): the read data byte that runs beyond its stream's region notes BOUNDARY, and SDO carries 00h. The stream
is the open one, whose next byte this is (log entry 13). -/
def execBoundary (a : Half) (s : State) : Host.Outcome State Fault Refusal := .next (s.readByte a)

end Sys2Proof.Machine
end

