-- ==== Sys2Proof/Machine/Scan.lean ====
section
/-! DEFINITION. The scan unit's own events (Chapter 7). -/

namespace Sys2Proof.Machine

/-- The expiry of a window's quiet timer (R135, R136): the timer becomes IDLE, and a dirty window becomes pending with
trigger QUIET unless it is pending already. -/
def Window.quietExpired (x : Window) : Window :=
  if x.dirty && !x.pending then { x with timer := .idle, pending := true, trigger := .quiet } else { x with timer := .idle }

/-- A quiet timer expires (R136). -/
def State.quietEvent (s : State) (w : WindowId) : Option State :=
  if s.quietDue w then some (s.setWin w (s.win w).quietExpired) else none

/-- QUIET_EXPIRY (R136). -/
def execQuietExpiry (w : WindowId) (s : State) : Host.Outcome State Fault Refusal := eventOutcome s (s.quietEvent w)

/-- SCAN_START (R138). -/
def execScanStart (s : State) : Host.Outcome State Fault Refusal := eventOutcome s s.scanStartEvent

/-- SCAN_READING (R139). -/
def execScanReading (s : State) : Host.Outcome State Fault Refusal := eventOutcome s s.scanReadingEvent

end Sys2Proof.Machine
end

