-- ==== Sys2Proof/Machine/Windows.lean ====
section
/-! DEFINITION. The window table's and window engine's own events (Chapter 2). -/

namespace Sys2Proof.Machine

/-- DRAIN_COMPLETE (R35). -/
def execDrainComplete (w : WindowId) (s : State) : Host.Outcome State Fault Refusal := eventOutcome s (s.drainEvent w)

/-- RELEASE_PHASE2 (R36). -/
def execReleasePhase2 (s : State) : Host.Outcome State Fault Refusal := eventOutcome s s.release2Event

/-- FILL_ANNOUNCE (R29). -/
def execFillAnnounce (s : State) : Host.Outcome State Fault Refusal := eventOutcome s s.fillAnnounceEvent

/-- FILL_PHASE2 (R30). -/
def execFillPhase2 (s : State) : Host.Outcome State Fault Refusal := eventOutcome s s.fillPhase2Event

end Sys2Proof.Machine
end

