-- ==== Sys2Proof/Machine/Dispatch.lean ====
section
/-! DEFINITION. The meaning of every command. -/

namespace Sys2Proof.Machine

/-- The effect of a command on everything but the queue. -/
def exec (i : Instr) (s : State) : Host.Outcome State Fault Refusal :=
  match i with
  | .deviceReset => Sys2Proof.Machine.execDeviceReset s
  | .hostRequest r => Sys2Proof.Machine.execHostRequest r s
  | .requestHandling => Sys2Proof.Machine.execRequestHandling s
  | .beatHandle => Sys2Proof.Machine.execBeatHandle s
  | .placementRetry => Sys2Proof.Machine.execPlacementRetry s
  | .runIssue => Sys2Proof.Machine.execRunIssue s
  | .hostResponse => Sys2Proof.Machine.execHostResponse s
  | .issueGrant => Sys2Proof.Machine.execIssueGrant s
  | .memoryResponse r => Sys2Proof.Machine.execMemoryResponse r s
  | .memoryTimeout => Sys2Proof.Machine.execMemoryTimeout s
  | .idleExpiry l => Sys2Proof.Machine.execIdleExpiry l s
  | .mirrorWaitSatisfied l => Sys2Proof.Machine.execMirrorWaitSatisfied l s
  | .drainComplete w => Sys2Proof.Machine.execDrainComplete w s
  | .releasePhase2 => Sys2Proof.Machine.execReleasePhase2 s
  | .fillAnnounce => Sys2Proof.Machine.execFillAnnounce s
  | .fillPhase2 => Sys2Proof.Machine.execFillPhase2 s
  | .transmissionStart => Sys2Proof.Machine.execTransmissionStart s
  | .messageSent => Sys2Proof.Machine.execMessageSent s
  | .resyncEnqueue => Sys2Proof.Machine.execResyncEnqueue s
  | .creditEvent => Sys2Proof.Machine.execCreditEvent s
  | .stallExpiry => Sys2Proof.Machine.execStallExpiry s
  | .quietExpiry w => Sys2Proof.Machine.execQuietExpiry w s
  | .scanStart => Sys2Proof.Machine.execScanStart s
  | .scanReading => Sys2Proof.Machine.execScanReading s
  | .flushAllComplete => Sys2Proof.Machine.execFlushAllComplete s
  | .softResetComplete => Sys2Proof.Machine.execSoftResetComplete s
  | .arm v => Sys2Proof.Machine.execArm v s
  | .disarm v => Sys2Proof.Machine.execDisarm v s
  | .scan v => Sys2Proof.Machine.execScan v s
  | .flushAll v => Sys2Proof.Machine.execFlushAll v s
  | .mirrorAttach v => Sys2Proof.Machine.execMirrorAttach v s
  | .mirrorDetach v => Sys2Proof.Machine.execMirrorDetach v s
  | .recount v => Sys2Proof.Machine.execRecount v s
  | .faultPop v => Sys2Proof.Machine.execFaultPop v s
  | .resultPop v => Sys2Proof.Machine.execResultPop v s
  | .softReset v => Sys2Proof.Machine.execSoftReset v s
  | .windowFieldCommit w f v => Sys2Proof.Machine.execWindowFieldCommit w f v s
  | .entryCommit e v => Sys2Proof.Machine.execEntryCommit e v s
  | .globalWrite k v => Sys2Proof.Machine.execGlobalWrite k v s
  | .registerWrite a v => Sys2Proof.Machine.execRegisterWrite a v s
  | .readCapture a => Sys2Proof.Machine.execReadCapture a s
  | .voidTransaction k => Sys2Proof.Machine.execVoidTransaction k s
  | .transactionEnd => Sys2Proof.Machine.execTransactionEnd s
  | .boundary a => Sys2Proof.Machine.execBoundary a s

end Sys2Proof.Machine
end

