-- ==== Sys2Proof/Machine/Time.lean ====
section
/-! DEFINITION. The timebase and the bridge's own events, taken where no command waits (log entry 3). -/

namespace Sys2Proof.Machine

/-! ### The tick (00, Time; R53, R113, R128, R135, R166) -/

/-- The idle timer of a GATHERING line runs (R53). -/
def Line.tick (ln : Line) : Line := if ln.state == .gathering then { ln with idle := ln.idle + 1 } else ln

/-- The stall timer counts while the stall condition holds, and is 0 otherwise (R113). -/
def Mirror.tick (m : Mirror) : Mirror := if m.stalled then { m with stall := m.stall + 1 } else { m with stall := 0 }

/-- An outstanding request ages (R128). -/
def Outstanding.tick (o : Outstanding) : Outstanding := { o with age := o.age + 1 }

/-- A TIMING quiet timer counts while the window is ARMED and its interval is not 0 (R135). -/
def Window.tick (x : Window) : Window :=
  match x.timer with
  | .timing t => if x.state == .armed && x.quiet != 0 then { x with timer := .timing (t + 1) } else x
  | .idle => x

/-- One tick of the timebase: every timer counts it, and the timers that have reached their interval are marked. -/
def State.tick (s : State) : State :=
  State.ripen
    { s with
      gather := { s.gather with lines := s.gather.lines.map Line.tick }
      mirror := s.mirror.tick
      link := { s.link with outstanding := s.link.outstanding.map Outstanding.tick }
      windows := s.windows.map Window.tick }

/-- One REFCLK period: the tick comes with the last of its prescale + 1 periods, and the next tick takes the prescale that
stands then (R166). -/
def State.refclk (s : State) : State :=
  if s.refLeft ≤ 1 then State.tick { s with refLeft := s.port.settings.prescale.toNat + 1 }
  else { s with refLeft := s.refLeft - 1 }

/-! ### The bridge's own next event -/

/-- The expiries that are due, in the model's order (log entry 25). -/
def State.expiryEvent (s : State) : Option State :=
  s.timeoutEvent <|> s.stallEvent <|> (allLines.findSome? s.idleEvent) <|> (allWindows.findSome? s.quietEvent)

/-- The steps that the bridge takes of itself (log entry 3). -/
def State.ownEvent (s : State) : Option State :=
  s.consequence <|> s.expiryEvent <|> s.requestEvent <|> s.beatEvent <|> s.grantEvent <|> s.startEvent <|> s.resyncEvent

/-- What the bridge does where no command waits: its own next event, or else one REFCLK period (log entry 3). -/
def State.idleStep (s : State) : State :=
  match s.ownEvent with
  | some t => t.settle
  | none => s.refclk

end Sys2Proof.Machine
end

