-- ==== Sys2Proof/Machine/Step.lean ====
section
/-! DEFINITION. One step of the block: the command at the front of the queue, or the bridge's own next event. -/

namespace Sys2Proof.Machine

/-- The queue without its front command. -/
def State.dequeued (s : State) (rest : List Instr) : State := { s with pending := rest }

/-- The front command is taken with the queue's rest; on an empty queue the bridge goes on by itself (log entries 1, 3). -/
def step (s : State) : Host.Outcome State Fault Refusal :=
  match s.pending with
  | [] => .next s.idleStep
  | c :: rest => exec c (s.dequeued rest)

/-- The command that a word spells, put at the front of the queue; no row of the table gives bits, so no word spells one
(log entry 24). -/
def State.withFetchWord (s : State) (nbits w : Nat) : State :=
  match decodeTableWord nbits w with
  | some i => { s with pending := i :: s.pending }
  | none => s

end Sys2Proof.Machine
end

