-- ==== Sys2Proof/Safety.lean ====
section
/-! DEFINITION. What a safe step is, and the laws of the device that every step keeps. -/

namespace Sys2Proof.Machine

/-- A step that goes on: neither a fault nor a refusal. -/
def State.goesOn (s : State) : Prop := ∃ t, step s = .next t

/-- The fault queue holds at most eight records (R176). -/
abbrev State.faultLaw (s : State) : Prop := s.faults.records.length ≤ 8

/-- The ingress queue holds at most four requests (R148). -/
abbrev State.ingressLaw (s : State) : Prop := s.host.queue.length ≤ 4

/-- At most four memory requests are outstanding, and none while the link is HALTED (R122, R124). -/
abbrev State.memoryLinkLaw (s : State) : Prop :=
  s.link.outstanding.length ≤ 4 ∧ (s.link.halted = true → s.link.outstanding = [])

/-- The result queue's records plus a scan's reserved place never number more than four (R146). -/
abbrev State.resultLaw (s : State) : Prop := s.scan.results.length + (if s.scan.reserved then 1 else 0) ≤ 4

/-- The mirror queue with a place in reserve holds at most sixteen messages, the credit counter is never above eight, and in
DETACHED there is no message, transmission, reserve, credit or held announcement (R101, R104, R106, R116). -/
abbrev State.mirrorLaw (s : State) : Prop :=
  s.mirror.level ≤ 16 ∧ s.mirror.credits ≤ 8 ∧
    (s.mirror.link = .detached →
      s.mirror.queue = [] ∧ s.mirror.sending = false ∧ s.mirror.reserve = false ∧ s.mirror.credits = 0 ∧ s.colour.held = [])

/-- The queue's messages carry consecutive numbers that follow the sent counter and end at the enqueue counter (R103). -/
abbrev State.sequenceLaw (s : State) : Prop :=
  s.mirror.enqueued = s.mirror.sent + BitVec.ofNat 16 s.mirror.queue.length ∧
    s.mirror.queue.map Message.seq =
      (List.range s.mirror.queue.length).map (fun i => s.mirror.sent + BitVec.ofNat 16 (i + 1))

/-- No count passes 67,108,863 (R86). -/
abbrev State.countLaw (s : State) : Prop := ∀ e, (s.entry e).count ≤ 67108863

/-- The held-announcement list has no duplicate (R95). -/
abbrev State.heldLaw (s : State) : Prop := s.colour.held.Nodup

/-- The memory list is in canonical form (log entry 5). -/
abbrev State.memoryLaw (s : State) : Prop := s.memory.wf = true

/-- The age list holds the GATHERING lines and the flush order the FLUSHING lines, each once (R44, R45). -/
abbrev State.gatherLaw (s : State) : Prop :=
  s.gather.age.Nodup ∧ s.gather.order.Nodup ∧
    ∀ l, (l ∈ s.gather.age ↔ (s.line l).state = .gathering) ∧ (l ∈ s.gather.order ↔ (s.line l).state = .flushing)

/-- No two gather lines hold the same group of the same window (R48). -/
abbrev State.groupLaw (s : State) : Prop :=
  ∀ l k, l ≠ k → (s.line l).state ≠ .free → (s.line k).state ≠ .free → (s.line l).window = (s.line k).window →
    (s.line l).group ≠ (s.line k).group

/-- The ranges of two windows are disjoint (R23). -/
abbrev Window.disjoint (x y : Window) : Prop :=
  overlaps x.hostLo x.hostHi y.hostLo y.hostHi = false ∧ overlaps x.memLo x.memHi y.memLo y.memHi = false

/-- The engine's window is in the state that its operation needs (R40): ARMING for a fill, adaptive and DRAINING for a release;
no operation is in progress during a soft reset (R41). -/
abbrev State.engineLaw (s : State) : Prop :=
  (match s.engine with
    | .idle => True
    | .filling f => (s.win f.window).state = .arming
    | .releasing r => (s.win r.window).state = .draining ∧ (s.win r.window).adaptive = true) ∧
  (s.inSoftReset = true → s.engine = .idle)

/-- The ranges of windows that are not OFF are pairwise disjoint (R23), with the engine's law that it rests on. -/
abbrev State.rangeLaw (s : State) : Prop :=
  (∀ w v, w ≠ v → (s.win w).inUse = true → (s.win v).inUse = true → (s.win w).disjoint (s.win v)) ∧ s.engineLaw

/-- SDO is driven from the first byte of a transaction to its end, and not while SCS is high (R159). -/
abbrev State.sdoLaw (s : State) : Prop := s.out.sdo = none ↔ s.port.txn = .none

/-- The laws together. -/
abbrev State.laws (s : State) : Prop :=
  s.faultLaw ∧ s.ingressLaw ∧ s.memoryLinkLaw ∧ s.resultLaw ∧ s.mirrorLaw ∧ s.sequenceLaw ∧ s.countLaw ∧ s.heldLaw ∧
    s.memoryLaw ∧ s.sdoLaw ∧ s.gatherLaw ∧ s.groupLaw ∧ s.rangeLaw

/-! ### Words of the statements -/

/-- The state after an action has been refused: only the action status, the stream and SDO differ (R167, R168). -/
def State.withRefusedAction (s : State) (code : Byte) (x : Reason) : State :=
  { s with
    port :=
      { s.port with
        txn := .data actionStream
        action := { s.port.action with outcome := .refused, reason := some x, code := code } }
    out := { s.out with sdo := some actionSdo } }

/-- The state with an action's acceptance in the action status, the stream and SDO (R168); its effect stands beside it. -/
def State.withAcceptedAction (s : State) (code : Byte) : State :=
  { s with
    port :=
      { s.port with
        txn := .data actionStream
        action := { s.port.action with outcome := .accepted, reason := none, code := code } }
    out := { s.out with sdo := some actionSdo } }

/-- An action can be judged by its own rule: no transaction is void and nothing is RUNNING (R159, R167). -/
abbrev State.takesActions (s : State) : Prop := s.port.txn ≠ .void ∧ s.port.action.running = none

/-- The ten action rows with an operand and their codes (Table 9-5). -/
def actionRows (v : Byte) : List (Byte × Instr) :=
  [(1, .arm v), (2, .disarm v), (3, .scan v), (4, .flushAll v), (5, .mirrorAttach v), (6, .mirrorDetach v), (7, .recount v),
    (8, .faultPop v), (9, .resultPop v), (10, .softReset v)]

/-- Ingress is ready for beat `h.next` of request r (R150). -/
abbrev State.readyFor (s : State) (h : Handling) (r : HostRequest) : Prop :=
  s.host.handling = some h ∧ s.host.queue.head? = some r ∧ h.activity = .ready ∧ h.next < h.results.length

/-- The state in which the present beat has a result and ingress goes on (R150). -/
def State.withResult (s : State) (h : Handling) (x : BeatResult) : State :=
  { s with
    host := { s.host with handling := some { h with results := h.results.set h.next x, next := h.next + 1, activity := .ready } } }

/-- A write beat begins a placement attempt with this command: a held beat whose wait is over, or the next beat of the request, a
whole-word write to an ARMED window (R46, R47, R151). -/
abbrev State.attemptsBeat (s : State) (c : Instr) (h : Handling) (b : HeldBeat) : Prop :=
  s.host.handling = some h ∧
    (c = .placementRetry ∧ h.activity = .placing b ∧ s.retryReady b = true ∨
      c = .beatHandle ∧ ∃ r, s.readyFor h r ∧ requestIsRead r = false ∧ (requestBeat r h.next).strobes = 15 ∧
        s.windowAt (requestBeatAddr r h.next) = some b.window ∧ (s.win b.window).state = .armed ∧
        b = s.newBeat b.window h.next (requestBeat r h.next).data)

/-- An attempt for beat b finds line l, which is `ln` before the slot write: the GATHERING line of its group, or the lowest FREE line,
allocated (R46, R48; the other fields of a line allocated are those of log entry 17). -/
abbrev State.targets (s : State) (b : HeldBeat) (l : LineId) (ln : Line) : Prop :=
  s.findLine b.window b.group = some l ∧ (s.line l).state = .gathering ∧ ln = s.line l ∨
    s.findLine b.window b.group = none ∧ s.freeLineId = some l ∧
      ln = { Line.blank with state := .gathering, window := b.window, group := b.group }

/-- Every slot of a line's group is occupied (R50). -/
abbrev Line.isFull (ln : Line) (w : Window) : Prop := ∀ i : SlotId, i.val < w.fmt.pixels → (ln.slots[i]).isSome = true

/-- A line whose flush has just started (R54, R61, Table 3-4). -/
def Line.inFlush (ln : Line) (w : Window) (c : FlushCause) : Line :=
  { ln with
    state := .flushing
    phase := some (if w.adaptive = false ∧ ln.isFull w then .mirrorWait else .readWait)
    kind := some (if w.adaptive = true then .counted else if ln.isFull w then .full else .merge)
    cause := some c
    issued := false }

/-- Beat b of the request is finished with a result, and ingress goes on (R47, R150). -/
def State.withBeatEnded (s : State) (h : Handling) (b : HeldBeat) (x : BeatResult) : State :=
  { s with
    host :=
      { s.host with
        handling := some
          { h with
            results := h.results.mapIdx (fun i y => if i = b.beat then x else y), next := b.beat + 1, activity := .ready } } }

/-- Beat b waits (R47). -/
def State.withBeatHeld (s : State) (h : Handling) (b : HeldBeat) : State :=
  { s with host := { s.host with handling := some { h with activity := .placing b } } }

/-- Two ranges of byte addresses share one. -/
abbrev meet (lo hi lo' hi' : Nat) : Prop := ∃ a, lo ≤ a ∧ a < hi ∧ lo' ≤ a ∧ a < hi'

/-- The state once the head of the outstanding list has left it (R122; log entry 21 for the timeout's mark). -/
def State.withHeadGone (s : State) (rest : List Outstanding) : State :=
  { s with link := { s.link with outstanding := rest }, ripe := { s.ripe with timeout := false } }

/-- The rows of the consequences that an event may set off in the same event (log entry 2). -/
def State.consequenceRows (s : State) : List Instr :=
  s.gather.order.map .mirrorWaitSatisfied ++ allWindows.map .drainComplete ++
    [.fillAnnounce, .fillPhase2, .scanReading, .runIssue, .flushAllComplete, .softResetComplete, .placementRetry, .releasePhase2,
      .hostResponse, .scanStart]

/-- What ingress does once line l has left the wait set of a held beat's exhaustion claim or of a run's overlap claim (R55). -/
def Activity.without (a : Activity) (l : LineId) : Activity :=
  match a with
  | .placing b =>
    match b.wait with
    | .flushes set => .placing { b with wait := .flushes (set.filter (· ≠ l)) }
    | _ => a
  | .running r => .running { r with wait := r.wait.filter (· ≠ l) }
  | _ => a

/-- In u, line l of s has become FREE, and has left the flush order and every wait set (R42, R55, R66; log entry 17). Ingress keeps of
the reads of the line's group only those that have not returned (R71; log entry 8). -/
abbrev State.lineLeft (s u : State) (l : LineId) : Prop :=
  let ln := s.line l
  u.line l = Line.blank ∧ (∀ k, k ≠ l → u.line k = s.line k) ∧ u.gather.age = s.gather.age.filter (· ≠ l) ∧
    u.gather.order = s.gather.order.filter (· ≠ l) ∧
    u.gather.present = (if s.gather.present = some l then none else s.gather.present) ∧
    u.scan = { s.scan with wait := s.scan.wait.filter (· ≠ l) } ∧
    (∀ set, s.port.action.running = some (.flushAll set) →
      u.port = { s.port with action := { s.port.action with running := some (.flushAll (set.filter (· ≠ l))) } }) ∧
    ((∀ set, s.port.action.running ≠ some (.flushAll set)) → u.port = s.port) ∧
    (s.host.handling = none → u.host = s.host) ∧
    ∀ h, s.host.handling = some h → u.host =
      { s.host with
        handling := some
          { h with
            activity := h.activity.without l
            reads := h.reads.filter (fun r =>
              r.status = .presented ∨ r.status = .outstanding ∨ ¬(r.window = ln.window ∧ r.group = ln.group)) } }

/-- In u, line l of s has failed its flush (R67, R88, Table 10-1). -/
abbrev State.flushLost (s u : State) (l : LineId) : Prop :=
  let ln := s.line l
  let w := s.win ln.window
  u.faults = s.faults.append
      { cause := .lostWrite, window := some ln.window, addr := some (BitVec.ofNat 32 (w.mbase.toNat + ln.group * w.fmt.bytes)),
        entry := none, flush := ln.cause } ∧
    u.colour =
      (if ln.kind = some .counted then s.colour.subCounts (ln.occupied.map (fun p => w.entryOf p.2)) else s.colour) ∧
    s.lineLeft u l ∧ u.memory = s.memory ∧ u.windows = s.windows ∧ u.engine = s.engine ∧ u.mirror = s.mirror ∧ u.out = s.out

/-- In u, the request that host ingress presents in s has been answered ERROR without being issued: its beats fault MEMORY, and ingress
goes on with its next request (R70, R124, R156). -/
abbrev State.hostRefused (s u : State) : Prop :=
  ∀ h, s.host.handling = some h →
    (∀ id, h.activity = .reading id → u =
      { s with
        host :=
          { s.host with
            handling := some
              { h with
                results := h.results.mapIdx (fun _ x => if x = .awaiting id then .fault .memory else x)
                reads := h.reads.map (fun x => if x.id = id then { x with status := .failed } else x)
                activity := .ready
                next := id + 1 } } }) ∧
    ∀ r p rest, h.activity = .running r → r.pieces = p :: rest → u =
      { s with
        host :=
          { s.host with
            handling := some
              { h with
                results := h.results.mapIdx (fun i x => if p.first ≤ i ∧ i ≤ p.last then .fault .memory else x)
                activity := if rest = [] then .ready else .running { r with pieces := rest }
                next := if rest = [] then r.last + 1 else h.next } } }

/-- In u, the window engine's operation of s has ended where it could: none of its requests is outstanding, and it has completed, failed
or been aborted (R31, R32, R33, R38, R39, R89). -/
abbrev State.engineEnds (s u : State) : Prop :=
  let waits : Prop := ∃ o ∈ s.link.outstanding, o.by' = .fill ∨ o.by' = .release
  let idle (w : WindowId) (st : WindowState) : State :=
    { s with engine := .idle, windows := s.windows.set w { s.win w with state := st } }
  (waits ∨ s.engine = .idle → u = s) ∧
  (∀ f, ¬waits → s.engine = .filling f →
    let w := s.win f.window
    let off : State := { idle f.window .off with colour := s.colour.subCount w.fillEntryId w.pixels.toNat }
    (∀ a, f.failed = some a → u = { off with
      faults := s.faults.append
        { cause := .fillFailed, window := some f.window, addr := some a, entry := some w.fillEntryId, flush := none } }) ∧
    (f.failed = none → f.aborted = true → u = off) ∧
    (f.failed = none → f.aborted = false → f.phase = .writing → w.memHi ≤ f.next → u = idle f.window .armed) ∧
    (f.failed = none → f.aborted = false → (f.phase ≠ .writing ∨ f.next < w.memHi) → u = s)) ∧
  ∀ r, ¬waits → s.engine = .releasing r →
    (∀ a, r.failed = some a → u = { idle r.window .off with
      colour := { s.colour with suspect := true }
      faults := s.faults.append
        { cause := .releaseFailed, window := some r.window, addr := some a, entry := none, flush := none } }) ∧
    (r.failed = none → r.reading = true → (s.win r.window).memHi ≤ r.pointer → u = idle r.window .off) ∧
    (r.failed = none → (r.reading = false ∨ r.pointer < (s.win r.window).memHi) → u = s)

/-- In u, the scan of s that is in FLUSHING or READING has ended with MEM_ERROR (R144, R145); any other state of the unit stays. -/
abbrev State.scanLost (s u : State) : Prop :=
  let w := s.win s.scan.window
  (s.scan.state = .idle ∨ s.scan.state = .aborting → u = s) ∧
  (s.scan.state = .flushing ∨ s.scan.state = .reading → ∃ st : ScanState,
    ((∃ x ∈ s.link.outstanding, x.by' = .scan) → st = .aborting) ∧ (¬(∃ x ∈ s.link.outstanding, x.by' = .scan) → st = .idle) ∧
    u = { s with
      windows := s.windows.set s.scan.window { w with epoch := w.epoch + 1 }
      scan :=
        { s.scan with
          state := st
          wait := []
          kept := []
          results := s.scan.results ++
            [{ window := s.scan.window, epoch := w.epoch + 1, crc := 0, status := .memError, trigger := s.scan.trigger }] } })

/-- The next data byte of write stream t of region r is at address a, and SDO has carried `o` so far: t is the open stream, or the
one of a transaction that this byte opens, after its three first bytes (R159, R161). -/
abbrev State.writesAt (s : State) (r : Region) (a : Half) (t : Stream) (o : List Byte) : Prop :=
  s.port.txn = .data t ∧ t.write = true ∧ t.next = a ∧ t.region = some r ∧ t.ended = false ∧ s.out.sdo = some o ∨
    s.port.txn = .none ∧ regionOf a = some r ∧ o = [0, 0, 0] ∧
      t = { write := true, region := some r, next := a, ended := false, staged := [], capture := none }

/-- The next data byte of read stream t, within its region r, is at address a, and SDO has carried `o` so far: t is the open stream, or
the one of a transaction that this byte opens, after its four first bytes (R159, R161). -/
abbrev State.readsAt (s : State) (r : Region) (a : Half) (t : Stream) (o : List Byte) : Prop :=
  s.port.txn = .data t ∧ t.write = false ∧ t.next = a ∧ t.region = some r ∧ t.ended = false ∧ r.base ≤ a.toNat ∧
      a.toNat < r.base + r.size ∧ s.out.sdo = some o ∨
    s.port.txn = .none ∧ regionOf a = some r ∧ o = [0, 0, 0, 0] ∧
      t = { write := false, region := some r, next := a, ended := false, staged := [], capture := none }

/-- The item of n bytes at address b of a region is captured when its first byte is read (R164). -/
abbrev isCaptured (r : Region) (b n : Nat) : Prop :=
  (r = .counts ∧ n = 4 ∧ ∃ e : EntryId, b = 0x0800 + 4 * e.val) ∨
  (r = .windows ∧ n = 2 ∧ ∃ w : WindowId, b = 0x0116 + 32 * w.val) ∨
    (r = .status ∧ n = 4 ∧ b = 0x003B) ∨ (r = .faultHead ∧ n = 16 ∧ b = 0x0C00) ∨ (r = .resultHead ∧ n = 16 ∧ b = 0x0C10)

/-- The commands that carry a written management byte. -/
def writesByte : Instr → Bool
  | .windowFieldCommit _ _ _ => true
  | .entryCommit _ _ => true
  | .globalWrite _ _ => true
  | .registerWrite _ _ => true
  | _ => false

/-- The command carries byte v, written at management address a (Tables 11-5, 11-7, 11-8; log entry 13). -/
abbrev carriesByte (c : Instr) (a : Half) (v : Byte) : Prop :=
  c = .registerWrite a v ∨
    (∃ k, c = .globalWrite k v ∧
      (k, a) ∈ [(Setting.prescale, 0x0010), (.gatherIdle, 0x0011), (.mirrorStall, 0x0012), (.memTimeout, 0x0013), (.enables, 0x0014)]) ∨
    (∃ w f, c = .windowFieldCommit w f v ∧ a = BitVec.ofNat 16 (0x0100 + 32 * w.val + fieldOffset f + fieldBytes f - 1)) ∨
    ∃ e, c = .entryCommit e v ∧ a = BitVec.ofNat 16 (0x0403 + 4 * e.val)

end Sys2Proof.Machine
end

