-- ==== Sys2Proof/Certificates/Slice0/Obligations.lean ====
section
/-! DEFINITION. The statements for the provers. Where a statement gives a state followed by `settle`, that state is the
command's own effect, and `settle` takes the consequences that the spec puts in the same event (log entry 2). -/

open Sys2Proof Sys2Proof.Machine

/-! ### Steps -/

/-- A step with a command at the front of the queue is that command's meaning on the queue's rest; no step and no command stops the
block, and a command touches no waiting command. -/
def Obligations.StepRunsFrontCommand : Prop :=
  ∀ (c : Instr) (s : State), step { s with pending := c :: s.pending } = exec c s ∧ s.goesOn ∧
    ∃ t : State, exec c s = .next t ∧ t.pending = s.pending

/-- What `settle` does (log entry 2): it takes one open consequence after another, at most 256 of them, and a state with none open
is left as it is. An open consequence is what the command of its row does; the flush engine's presentation of a request (R62) or the
answer to a request presented while the link is HALTED (R124), which have no row; where none is open, each of these commands changes
nothing. The lines are those of the flush order, which holds the FLUSHING ones (R45). The order between blocks that one
event reaches is the model's choice (log entries 27 and 31). -/
def Obligations.SettleTakesConsequences : Prop :=
  ∀ s : State,
    (s.consequence = none →
      s.settle = s ∧ s.presentEvent = none ∧ s.haltedEvent = none ∧ ∀ c ∈ s.consequenceRows, exec c s = .next s) ∧
    (∀ t, s.consequence = some t →
      s.presentEvent = some t ∨ s.haltedEvent = some t ∨ ∃ c ∈ s.consequenceRows, exec c s = .next t.settle) ∧
    ∃ (n : Nat) (chain : Nat → State), n ≤ 256 ∧ chain 0 = s ∧ chain n = s.settle ∧
      (∀ i < n, (chain i).consequence = some (chain (i + 1))) ∧ (n = 256 ∨ s.settle.consequence = none)

/-- Where no command waits and the bridge has no event of its own, a step is one REFCLK period; its tick advances every running
timer by one, and marks the timers that it finds at or beyond their interval, none whose interval is 0 (R53, R113, R128, R135, R166;
log entry 3: the model's choice of what an idle step is). A timer is due while its mark stands and nothing has restarted or stopped
it (log entry 21). -/
def Obligations.EmptyQueueCountsTime : Prop :=
  let stalled (m : Mirror) : Prop := m.link ≠ .detached ∧ m.credits = 0 ∧ (if m.sending then 1 else 0) < m.queue.length
  (∀ s : State, s.pending = [] → s.ownEvent = none →
    (1 < s.refLeft → step s = .next { s with refLeft := s.refLeft - 1 }) ∧
    (s.refLeft ≤ 1 → ∃ t : State, step s = .next t ∧
      t.refLeft = s.port.settings.prescale.toNat + 1 ∧
      (∀ l, t.line l = if (s.line l).state = .gathering then { s.line l with idle := (s.line l).idle + 1 } else s.line l) ∧
      (stalled s.mirror → t.mirror = { s.mirror with stall := s.mirror.stall + 1 }) ∧
      (¬stalled s.mirror → t.mirror = { s.mirror with stall := 0 }) ∧
      t.link = { s.link with outstanding := s.link.outstanding.map (fun o => { o with age := o.age + 1 }) } ∧
      (∀ w, (s.win w).timer = .idle → t.win w = s.win w) ∧
      (∀ w k, (s.win w).timer = .timing k →
        t.win w = { s.win w with
          timer := .timing (if (s.win w).state = .armed ∧ (s.win w).quiet ≠ 0 then k + 1 else k) }) ∧
      t.host = s.host ∧ t.colour = s.colour ∧ t.scan = s.scan ∧ t.faults = s.faults ∧ t.port = s.port ∧
      t.memory = s.memory ∧
      (∀ l, l ∈ t.ripe.idle ↔ (t.line l).state = .gathering ∧ s.port.settings.gatherIdle ≠ 0 ∧
        s.port.settings.gatherIdle.toNat ≤ (t.line l).idle) ∧
      (t.ripe.stall = true ↔ stalled t.mirror ∧ s.port.settings.mirrorStall ≠ 0 ∧
        1000 * s.port.settings.mirrorStall.toNat ≤ t.mirror.stall) ∧
      (t.ripe.timeout = true ↔ t.link.halted = false ∧ s.port.settings.memTimeout ≠ 0 ∧
        ∃ o rest, t.link.outstanding = o :: rest ∧ s.port.settings.memTimeout.toNat ≤ o.age) ∧
      (∀ w, w ∈ t.ripe.quiet ↔ (t.win w).state = .armed ∧ (t.win w).quiet ≠ 0 ∧
        ∃ k, (t.win w).timer = .timing k ∧ 100 * (t.win w).quiet.toNat ≤ k))) ∧
  ∀ s : State,
    (∀ l, s.idleDue l = true ↔ l ∈ s.ripe.idle ∧ (s.line l).state = .gathering ∧ (s.line l).idle ≠ 0) ∧
    (s.stallDue = true ↔ s.ripe.stall = true ∧ stalled s.mirror ∧ s.mirror.stall ≠ 0) ∧
    (s.timeoutDue = true ↔ s.ripe.timeout = true ∧ s.link.halted = false ∧ s.link.outstanding ≠ []) ∧
    ∀ w, s.quietDue w = true ↔
      w ∈ s.ripe.quiet ∧ (s.win w).state = .armed ∧ ∃ k, (s.win w).timer = .timing k ∧ k ≠ 0

/-! ### Device reset -/

/-- A device reset brings every block to its reset state, whose values are these (R174, R168, R165, Table 9-4, R20, R43, R74, R103,
R118, R132, R147, R179). The memory behind the link keeps its contents, but that WRITEs outstanding at the reset may have been
performed, in their order, which is the model's: a free value says which (log entry 6). The fields of a FREE line other than its
state and slots are the model's (log entry 17). So is that a device reset drops the requests that wait on the link, with which the
host side is as after reset (log entry 10), and that the record of the responses issued stays (log entry 20). -/
def Obligations.DeviceResetRestores : Prop :=
  (∀ s : State, ∃ t : State, exec .deviceReset s = .next t ∧ t.host = State.reset.host ∧ t.windows = State.reset.windows ∧
    t.engine = State.reset.engine ∧ t.gather = State.reset.gather ∧ t.colour = State.reset.colour ∧
    t.mirror = State.reset.mirror ∧ t.link = State.reset.link ∧ t.scan.state = .idle ∧ t.scan.results = [] ∧
    t.scan.wait = [] ∧ t.scan.kept = [] ∧ t.faults = State.reset.faults ∧ t.port = State.reset.port ∧
    t.out = { s.out with sdo := none } ∧ (s.link.outstanding = [] → t.memory = s.memory) ∧
    ∃ late : List Outstanding, late.Sublist s.link.outstanding ∧
      t.memory = late.foldl (fun m x => if x.req.write then m.perform x.req else m) s.memory) ∧
  State.reset.port =
    { settings := { prescale := 24, gatherIdle := 16, mirrorStall := 20, memTimeout := 100, enables := 1 }
      action := { running := none, outcome := .none, reason := none, code := 0 }
      refusal := { reason := none, addr := 0, count := 0 }
      txn := .none } ∧
  (∀ w, State.reset.win w = Window.initial) ∧
  (Window.initial.state = .off ∧ Window.initial.epoch = 0 ∧ Window.initial.dirty = false ∧ Window.initial.pending = false ∧
    Window.initial.trigger = .command ∧ Window.initial.timer = .idle ∧ ∀ f, Window.initial.getField f = 0) ∧
  (∀ l, State.reset.line l = Line.blank) ∧ (Line.blank.state = .free ∧ ∀ i : SlotId, Line.blank.slots[i] = none) ∧
  State.reset.gather.age = [] ∧ State.reset.gather.order = [] ∧ State.reset.gather.present = none ∧ State.reset.engine = .idle ∧
  State.reset.host = { taking := true, queue := [], waiting := [], handling := none } ∧
  (∀ e, State.reset.entry e = { colour := Colour.black, pinned := false, count := 0 }) ∧
  State.reset.colour.suspect = false ∧ State.reset.colour.held = [] ∧
  State.reset.mirror.link = .detached ∧ State.reset.mirror.queue = [] ∧ State.reset.mirror.sending = false ∧
  State.reset.mirror.reserve = false ∧ State.reset.mirror.credits = 0 ∧ State.reset.mirror.enqueued = 0 ∧
  State.reset.mirror.sent = 0 ∧ State.reset.mirror.pointer = 0 ∧ State.reset.mirror.stall = 0 ∧
  State.reset.mirror.lost = false ∧
  State.reset.link = { halted := false, outstanding := [] } ∧ State.reset.faults = { records := [], overflow := false } ∧
  State.reset.attn = false

/-! ### Host link -/

/-- A presented request is taken while fewer than four are held and the link takes requests; otherwise it waits on the link (R148).
The request-level check: an aligned request within one 4 KiB block begins to be handled, any other is answered FAULT with cause
ALIGN, 0 for every beat of a READ, and nothing else is changed (R149). A request that waits on the link is taken when a place is
free and the link takes requests (R148); that several of them wait and are taken in the order of their presentation is the model's
choice (log entry 10). -/
def Obligations.HostRequestsTakenAndChecked : Prop :=
  (∀ (s : State) (r : HostRequest),
    (s.host.taking = true → s.host.queue.length < 4 → s.host.waiting = [] →
      exec (.hostRequest r) s = .next (State.settle { s with host := { s.host with queue := s.host.queue ++ [r] } })) ∧
    (s.host.taking = false ∨ 4 ≤ s.host.queue.length →
      exec (.hostRequest r) s = .next (State.settle { s with host := { s.host with waiting := s.host.waiting ++ [r] } }))) ∧
  (∀ x : HostSide, (x.taking = false → x.takeWaiting = x) ∧
    (x.taking = true → x.takeWaiting =
      { x with
        queue := x.queue ++ x.waiting.take (4 - x.queue.length), waiting := x.waiting.drop (4 - x.queue.length) })) ∧
  ∀ (s : State) (r : HostRequest) (rest : List HostRequest),
    s.host.handling = none → s.host.queue = r :: rest →
    (((requestAddr r).toNat % 4 = 0 ∧
        (requestAddr r).toNat / 4096 = ((requestAddr r).toNat + 4 * (requestLength r - 1)) / 4096) →
      exec .requestHandling s = .next (State.settle
        { s with
          host :=
            { s.host with
              handling := some
                { next := 0, results := List.replicate (requestLength r) .todo, activity := .ready, reads := [] } } })) ∧
    (¬((requestAddr r).toNat % 4 = 0 ∧
        (requestAddr r).toNat / 4096 = ((requestAddr r).toNat + 4 * (requestLength r - 1)) / 4096) →
      exec .requestHandling s = .next (State.settle
        { s with
          host := HostSide.takeWaiting { s.host with queue := rest, handling := none }
          out :=
            { s.out with
              responses := s.out.responses ++
                [{ cause := some .align, data := if requestIsRead r then List.replicate (requestLength r) 0 else [] }] } }))

/-- A beat is translated or not ready by the one window that is not OFF and holds its address, the lowest-numbered where several do,
and passthrough where none does (R5, R24). Beats that are done at once: NOT_READY, a write with no strobe, a write with some strobes
(R24, R151, Table 8-2). The response of a request whose beats are all done: OK or the cause of the lowest faulting beat, the data of
a READ with 0 for each beat that faulted; the request leaves the queue (R148, R157). -/
def Obligations.BeatsAndResponses : Prop :=
  (∀ (s : State) (a : Nat),
    let holds (w : WindowId) : Prop :=
      (s.win w).state ≠ .off ∧ (s.win w).hbase.toNat ≤ a ∧ a < (s.win w).hbase.toNat + 4 * (s.win w).pixels.toNat
    (∀ w, s.windowAt a = some w ↔ holds w ∧ ∀ v, v < w → ¬holds v) ∧ (s.windowAt a = none ↔ ∀ w, ¬holds w)) ∧
  (∀ (s : State) (h : Handling) (r : HostRequest) (w : WindowId),
    s.readyFor h r → s.windowAt (requestBeatAddr r h.next) = some w →
    ((s.win w).state ≠ .armed → exec .beatHandle s = .next (s.withResult h (.fault .notReady)).settle) ∧
    ((s.win w).state = .armed → requestIsRead r = false → (requestBeat r h.next).strobes = 0 →
      exec .beatHandle s = .next (s.withResult h (.done 0)).settle) ∧
    ((s.win w).state = .armed → requestIsRead r = false → (requestBeat r h.next).strobes ≠ 0 →
      (requestBeat r h.next).strobes ≠ 15 →
      exec .beatHandle s = .next (s.withResult h (.fault .partialStrobes)).settle)) ∧
  ∀ (s : State) (h : Handling) (r : HostRequest) (rest : List HostRequest),
    s.host.handling = some h → s.host.queue = r :: rest → h.activity = .ready → h.results.length ≤ h.next →
    (∀ x ∈ h.results, (∃ d, x = .done d) ∨ ∃ c, x = .fault c) →
    exec .hostResponse s = .next (State.settle
      { s with
        host := HostSide.takeWaiting { s.host with queue := rest, handling := none }
        out :=
          { s.out with
            responses := s.out.responses ++
              [{ cause := h.results.findSome? (fun x => match x with | .fault c => some c | _ => none)
                 data := if requestIsRead r then h.results.map (fun x => match x with | .done d => d | _ => 0) else [] }] } })

/-- A pixel write to a channel-format window whose group no line holds takes the lowest FREE line, whether its beat is handled
now or has waited (R46, R47, R48, R49, R134, R135). A place in reserve for the beat is given up at the end
(R107). The line's fields that the slot write does not set are the model's (log entry 17). -/
def Obligations.PixelWriteTakesFreeLine : Prop :=
  (∀ (s : State) (w : WindowId) (g : Nat),
    let holds (l : LineId) : Prop := (s.line l).state ≠ .free ∧ (s.line l).window = w ∧ (s.line l).group = g
    (∀ l, s.findLine w g = some l ↔ holds l ∧ ∀ k, k < l → ¬holds k) ∧ (s.findLine w g = none ↔ ∀ l, ¬holds l) ∧
    (∀ l, s.freeLineId = some l ↔ (s.line l).state = .free ∧ ∀ k, k < l → (s.line k).state ≠ .free) ∧
    (s.freeLineId = none ↔ ∀ l, (s.line l).state ≠ .free)) ∧
  ∀ (s : State) (c : Instr) (h : Handling) (b : HeldBeat) (l : LineId) (v : Stored),
    s.attemptsBeat c h b → (s.win b.window).state = .armed → (s.win b.window).encode b.word = some v →
    s.findLine b.window b.group = none → s.freeLineId = some l →
    ∃ u : State, exec c s = .next u.dropReserve.settle ∧
      u.line l =
        { Line.blank with
          state := .gathering, window := b.window, group := b.group, slots := Line.blank.slots.set b.slot (some v),
          mark := s.mirror.enqueued } ∧
      (∀ k, k ≠ l → u.line k = s.line k) ∧ u.gather.age = s.gather.age ++ [l] ∧ u.gather.order = s.gather.order ∧
      u.win b.window = { s.win b.window with dirty := true, timer := .timing 0 } ∧
      (∀ w, w ≠ b.window → u.win w = s.win w) ∧ u.host = (s.withBeatEnded h b (.done 0)).host ∧
      u.colour = s.colour ∧ u.mirror = s.mirror ∧ u.engine = s.engine ∧ u.link = s.link ∧
      u.faults = s.faults ∧ u.port = s.port ∧ u.memory = s.memory

/-- A pixel write whose value the conversion or the reverse lookup gives, into the line of its group or into the lowest FREE line:
the slot, the mark and the idle timer; the counts of an adaptive window; the DISARM flush in a DRAINING window, and the COMPLETE
flush of a full line; the window's dirty flag and quiet timer, and a scan's disturbed flag; a place in reserve for the beat is given
up at the end (R25, R46, R47, R48, R49, R50, R87, R107, R134, R135, R142). The fields of a line allocated that the slot write does
not set are the model's (log entry 17). -/
def Obligations.PixelWriteFillsSlot : Prop :=
  ∀ (s : State) (c : Instr) (h : Handling) (b : HeldBeat) (l : LineId) (ln : Line) (v : Stored),
    let w := s.win b.window
    let new : Line := { ln with slots := ln.slots.set b.slot (some v), mark := s.mirror.enqueued, idle := 0 }
    let age := if (s.line l).state = .free then s.gather.age ++ [l] else s.gather.age
    s.attemptsBeat c h b → s.targets b l ln →
    (w.encode b.word = some v ∨
      w.encode b.word = none ∧ ∃ e, s.colour.lookup w (pixelColour b.word) = .found e ∧ v = w.indexOf e) →
    ∃ u : State, exec c s = .next u.dropReserve.settle ∧
      (w.state = .draining → u.line l = new.inFlush w .disarm) ∧
      (w.state ≠ .draining → new.isFull w → u.line l = new.inFlush w .complete) ∧
      (w.state = .draining ∨ new.isFull w →
        u.gather.age = age.filter (· ≠ l) ∧ u.gather.order = s.gather.order ++ [l]) ∧
      (w.state ≠ .draining → ¬new.isFull w → u.line l = new ∧ u.gather.age = age ∧ u.gather.order = s.gather.order) ∧
      (∀ k, k ≠ l → u.line k = s.line k) ∧
      (w.adaptive = false → u.colour = s.colour) ∧
      (w.adaptive = true → ln.slots[b.slot] = none → u.colour = s.colour.addCount (w.entryOf v) 1) ∧
      (∀ old, w.adaptive = true → ln.slots[b.slot] = some old →
        u.colour = if w.entryOf v = w.entryOf old then s.colour
          else (s.colour.addCount (w.entryOf v) 1).subCount (w.entryOf old) 1) ∧
      u.win b.window = { w with dirty := true, timer := .timing 0 } ∧ (∀ x, x ≠ b.window → u.win x = s.win x) ∧
      u.scan = (if s.scan.reserved = true ∧ s.scan.window = b.window then { s.scan with disturbed := true } else s.scan) ∧
      u.host = (s.withBeatEnded h b (.done 0)).host ∧ u.mirror = s.mirror ∧ u.engine = s.engine ∧
      u.link = s.link ∧ u.faults = s.faults ∧ u.port = s.port ∧ u.memory = s.memory

/-- A pixel write whose colour no entry of the range but a FREE one holds allocates the lowest FREE entry, in an adaptive window:
the entry takes the colour and count 1, the index it replaces in the slot loses one, its ENTRY message joins the queue, in the place
in reserve where there is one, unless the link is DETACHED, and the line's mark takes that message in. The rest of the slot write is
as for any pixel write: the idle timer, the DISARM flush in a DRAINING window and the COMPLETE flush of a full line, the age list
and the flush order, the window's dirty flag and quiet timer, and a scan's disturbed flag (R25, R47, R49, R50, R80, R81, R82, R87,
R107, R134, R135, R142). The fields of a line allocated that the slot write does not set are the model's (log entry 17). -/
def Obligations.PixelWriteAllocates : Prop :=
  ∀ (s : State) (c : Instr) (h : Handling) (b : HeldBeat) (l : LineId) (ln : Line) (e : EntryId),
    let w := s.win b.window
    let old := ln.slots[b.slot].map w.entryOf
    let new (mark : Half) : Line :=
      { ln with slots := ln.slots.set b.slot (some (w.indexOf e)), mark := mark, idle := 0 }
    let age := if (s.line l).state = .free then s.gather.age ++ [l] else s.gather.age
    s.attemptsBeat c h b → s.targets b l ln → w.adaptive = true →
    (∀ x, w.inRange x = true → (s.entry x).isFree = false → (s.entry x).colour ≠ pixelColour b.word) →
    w.inRange e = true → (s.entry e).isFree = true → (∀ x, x < e → w.inRange x = true → (s.entry x).isFree = false) →
    (s.mirror.link = .detached ∨
      s.mirror.link ≠ .detached ∧ s.colour.held = [] ∧ (s.mirror.reserve = true ∨ s.mirror.level < 16)) →
    (∀ x, old = some x → 0 < (s.entry x).count) →
    ∃ u : State, exec c s = .next u.dropReserve.settle ∧
      u.entry e = { colour := pixelColour b.word, pinned := false, count := 1 } ∧
      (∀ x, x ≠ e → u.entry x = { s.entry x with count := (s.entry x).count - if old = some x then 1 else 0 }) ∧
      (s.mirror.link = .detached → u.mirror = s.mirror) ∧
      (s.mirror.link ≠ .detached → u.mirror =
        { s.mirror with
          reserve := false
          enqueued := s.mirror.enqueued + 1
          queue := s.mirror.queue ++
            [{ kind := .entry, seq := s.mirror.enqueued + 1, entry := e, colour := pixelColour b.word }] }) ∧
      (u.line l).mark = u.mirror.enqueued ∧ (u.line l).slots = ln.slots.set b.slot (some (w.indexOf e)) ∧
      (u.line l).window = b.window ∧ (u.line l).group = b.group ∧ (u.line l).state ≠ .free ∧
      (w.state = .draining → u.line l = (new u.mirror.enqueued).inFlush w .disarm) ∧
      (w.state ≠ .draining → (new u.mirror.enqueued).isFull w → u.line l = (new u.mirror.enqueued).inFlush w .complete) ∧
      (w.state = .draining ∨ (new u.mirror.enqueued).isFull w →
        u.gather.age = age.filter (· ≠ l) ∧ u.gather.order = s.gather.order ++ [l]) ∧
      (w.state ≠ .draining → ¬(new u.mirror.enqueued).isFull w →
        u.line l = new u.mirror.enqueued ∧ u.gather.age = age ∧ u.gather.order = s.gather.order) ∧
      (∀ k, k ≠ l → u.line k = s.line k) ∧ u.host = (s.withBeatEnded h b (.done 0)).host ∧
      u.win b.window = { w with dirty := true, timer := .timing 0 } ∧ (∀ x, x ≠ b.window → u.win x = s.win x) ∧
      u.scan = (if s.scan.reserved = true ∧ s.scan.window = b.window then { s.scan with disturbed := true } else s.scan) ∧
      u.colour.held = s.colour.held ∧ u.colour.suspect = s.colour.suspect ∧ u.link = s.link ∧ u.engine = s.engine ∧
      u.faults = s.faults ∧ u.port = s.port ∧ u.memory = s.memory

/-- Where a pixel write waits: for the FLUSHING line of its group; for any line, where none is FREE, with the head of the age list
evicted; for mirror queue space, where an allocation cannot be announced; and for the wait set of the exhaustion claim, which starts
the flushes of the adaptive windows whose entry ranges meet its own; a place in reserve for the beat is given up (R47, R51, R52,
R55, R59, R82, R84, R107). When each of these waits is over, a fresh attempt begins (R47);
that it comes after the failed flushes and the failed fill of the same event is the model's choice (log entry 31). -/
def Obligations.PixelWriteWaits : Prop :=
  (∀ (s : State) (b : HeldBeat),
    (∀ l, b.wait = .line l → (s.retryReady b = true ↔ (s.line l).state = .free)) ∧
    (b.wait = .anyLine → (s.retryReady b = true ↔ ∃ l, (s.line l).state = .free)) ∧
    (b.wait = .space → (s.retryReady b = true ↔ s.mirror.link = .detached ∨ s.mirror.reserve = true)) ∧
    ∀ set, b.wait = .flushes set → (s.retryReady b = true ↔ set = [])) ∧
  ∀ (s : State) (c : Instr) (h : Handling) (b : HeldBeat), s.attemptsBeat c h b → s.gatherLaw →
    let w := s.win b.window
    (∀ l, s.findLine b.window b.group = some l → (s.line l).state = .flushing →
      exec c s = .next (s.withBeatHeld h { b with wait := .line l }).dropReserve.settle) ∧
    (s.findLine b.window b.group = none → s.freeLineId = none → s.gather.age = [] →
      exec c s = .next (s.withBeatHeld h { b with wait := .anyLine }).dropReserve.settle) ∧
    (∀ k ks, s.findLine b.window b.group = none → s.freeLineId = none → s.gather.age = k :: ks →
      exec c s = .next (State.settle (State.dropReserve
        { s.withBeatHeld h { b with wait := .anyLine } with
          gather :=
            { s.gather with
              lines := s.gather.lines.set k ((s.line k).inFlush (s.win (s.line k).window) .evict)
              age := ks
              order := s.gather.order ++ [k] } }))) ∧
    (∀ l ln, s.targets b l ln → w.encode b.word = none →
      (∀ e, s.colour.lookup w (pixelColour b.word) = .allocate e → s.mirror.link ≠ .detached →
        (s.colour.held ≠ [] ∨ s.mirror.reserve = false ∧ 16 ≤ s.mirror.queue.length) →
        exec c s = .next (s.withBeatHeld h { b with wait := .space }).dropReserve.settle) ∧
      (s.colour.lookup w (pixelColour b.word) = .exhausted → b.retry = false →
        let p (k : LineId) : Bool :=
          (s.win (s.line k).window).adaptive && (s.win (s.line k).window).rangesOverlap w
        ∃ (u : State) (set : List LineId), exec c s = .next u.dropReserve.settle ∧
          u.host = (s.withBeatHeld h { b with retry := true, wait := .flushes set }).host ∧
          (∀ k, k ∈ set ↔ (s.line k).state ≠ .free ∧ p k = true) ∧
          (∀ k, (s.line k).state = .gathering → p k = true →
            u.line k = (s.line k).inFlush (s.win (s.line k).window) .exhaust) ∧
          (∀ k, ¬((s.line k).state = .gathering ∧ p k = true) → u.line k = s.line k) ∧
          u.gather.age = s.gather.age.filter (fun k => !p k) ∧
          u.gather.order = s.gather.order ++ s.gather.age.filter p ∧
          u.colour = s.colour ∧ u.mirror = s.mirror ∧ u.windows = s.windows ∧ u.scan = s.scan ∧
          u.engine = s.engine ∧ u.link = s.link ∧ u.faults = s.faults ∧ u.port = s.port ∧ u.memory = s.memory))

/-- What a pixel write of an indexed window looks up: the lowest entry that holds the colour exactly, among the entries of the range
that are not FREE for an adaptive window and the PINNED ones for a FIXED window; else the nearest of them, for a FIXED window and
for an adaptive one under NEAREST with no FREE entry; NO_ENTRY for a FIXED window with no PINNED entry, and EXHAUSTED for the retry
under FAULT (R47, R75, R78, R79, R80, R83, R85). A place in reserve for the beat is given up at the end (R107). -/
def Obligations.PixelWriteLooksUp : Prop :=
  (∀ (s : State) (c : Instr) (h : Handling) (b : HeldBeat) (l : LineId) (ln : Line),
    let w := s.win b.window
    let col := pixelColour b.word
    let fixed := (w.format = 3 ∨ w.format = 4) ∧ w.tableMode = 0
    let cand (x : EntryId) : Prop := w.inRange x = true ∧ (if w.adaptive then (s.entry x).isFree = false else (s.entry x).pinned = true)
    let exact (e : EntryId) : Prop := cand e ∧ (s.entry e).colour = col ∧ ∀ x, x < e → cand x → (s.entry x).colour ≠ col
    let nearest (e : EntryId) : Prop := cand e ∧ ∀ x, cand x →
      distance col (s.entry e).colour < distance col (s.entry x).colour ∨
        distance col (s.entry e).colour = distance col (s.entry x).colour ∧ e ≤ x
    let noExact : Prop := ∀ x, cand x → (s.entry x).colour ≠ col
    let noFree : Prop := ∀ x, w.inRange x = true → (s.entry x).isFree = false
    s.attemptsBeat c h b → s.targets b l ln →
    (∀ e, (fixed ∧ (exact e ∨ noExact ∧ nearest e) ∨
        w.adaptive = true ∧ (exact e ∨ noExact ∧ noFree ∧ w.policy = 0 ∧ nearest e)) →
      ∃ u : State, exec c s = .next u.dropReserve.settle ∧ (u.line l).slots = ln.slots.set b.slot (some (w.indexOf e)) ∧
        (∀ x, (u.entry x).colour = (s.entry x).colour ∧ (u.entry x).pinned = (s.entry x).pinned) ∧
        u.host = (s.withBeatEnded h b (.done 0)).host ∧ u.mirror = s.mirror) ∧
    (fixed → (∀ x, ¬cand x) → exec c s = .next (s.withBeatEnded h b (.fault .noEntry)).dropReserve.settle) ∧
    (w.adaptive = true → noExact → noFree → w.policy = 1 → b.retry = true →
      exec c s = .next (s.withBeatEnded h b (.fault .exhausted)).dropReserve.settle)) ∧
  (∀ (w : Window) (e : EntryId),
    (w.format = 3 → w.inRange e = true ∧ w.indexOf e = .index8 (BitVec.ofNat 8 e.val)) ∧
    (w.format = 4 → (w.inRange e = true ↔ e.val / 16 = w.partition.toNat) ∧
      (w.inRange e = true → w.indexOf e = .index4 (BitVec.ofNat 4 e.val)))) ∧
  ∀ w v : Window, (w.format = 3 ∨ w.format = 4 ∧ w.partition.toNat ≤ 15) →
    (v.format = 3 ∨ v.format = 4 ∧ v.partition.toNat ≤ 15) →
    (w.rangesOverlap v = true ↔ (w.format = 4 ∧ v.format = 4 → w.partition = v.partition))

/-- The counts of a slot write in an adaptive window: the new index rises by one and the replaced one falls by one, with no
change where they name one entry; in any other window no count changes (R49, R87). A count event stops at 67,108,863 and at 0, where
it sets suspect, and changes no colour and no pin; several decreases are taken one by one (R86). -/
def Obligations.SlotWriteCounts : Prop :=
  (∀ (s : State) (h : HeldBeat) (l : LineId) (v : Stored),
    let w := s.win h.window
    let old : Option Stored := ((s.line l).target h).slots[h.slot]
    (w.adaptive = false → (s.slotWrite h l v).colour = s.colour) ∧
    (w.adaptive = true → (s.entry (w.entryOf v)).count < 67108863 →
      (∀ v', old = some v' → 0 < (s.entry (w.entryOf v')).count) →
      (s.slotWrite h l v).colour.suspect = s.colour.suspect ∧
      ∀ e, ((s.slotWrite h l v).entry e).count + (if old.map w.entryOf = some e then 1 else 0) =
        (s.entry e).count + (if w.entryOf v = e then 1 else 0))) ∧
  (∀ (t : ColourTable) (e : EntryId) (es : List EntryId),
    t.subCounts [] = t ∧ t.subCounts (e :: es) = (t.subCount e 1).subCounts es) ∧
  ∀ (t : ColourTable) (e : EntryId) (n : Nat), (t.entry e).count ≤ 67108863 →
    ((t.addCount e n).entry e = { t.entry e with count := min ((t.entry e).count + n) 67108863 } ∧
      (t.addCount e n).suspect = (t.suspect || decide (67108863 < (t.entry e).count + n)) ∧
      (t.addCount e n).held = t.held ∧ ∀ f, f ≠ e → (t.addCount e n).entry f = t.entry f) ∧
    ((t.subCount e n).entry e = { t.entry e with count := (t.entry e).count - n } ∧
      (t.subCount e n).suspect = (t.suspect || decide ((t.entry e).count < n)) ∧
      (t.subCount e n).held = t.held ∧ ∀ f, f ≠ e → (t.subCount e n).entry f = t.entry f)

/-- A translated read is forwarded from a line that holds its slot; otherwise ingress presents one read of the group (R69,
R70, R152). A later beat of the request in that group is served by the same read: it awaits it, or takes its data or its ERROR where
it has returned (log entry 8). That a beat handled after the return is decoded when it is handled, with the colour that the entry of
an indexed pixel holds then, is the model's choice (log entry 30). -/
def Obligations.TranslatedReads : Prop :=
  (∀ (s : State) (w : WindowId) (g : Nat) (i : SlotId),
    (∀ l, s.findLine w g = some l → s.forwarded w g i = (s.line l).slots[i]) ∧
    (s.findLine w g = none → s.forwarded w g i = none)) ∧
  ∀ (s : State) (h : Handling) (r : HostRequest) (w : WindowId),
    s.readyFor h r → s.windowAt (requestBeatAddr r h.next) = some w → (s.win w).state = .armed → requestIsRead r = true →
    let g := (s.win w).groupOf (requestBeatAddr r h.next)
    let i := (s.win w).slotOf (requestBeatAddr r h.next)
    (∀ v, s.forwarded w g i = some v →
      exec .beatHandle s = .next (s.withResult h (.done ((s.win w).decode s.colour v))).settle) ∧
    (s.forwarded w g i = none → (∀ q ∈ h.reads, ¬(q.window = w ∧ q.group = g)) →
      exec .beatHandle s = .next (State.settle
        { s with
          host :=
            { s.host with
              handling := some
                { h with
                  results := h.results.set h.next (.awaiting h.next)
                  activity := .reading h.next
                  reads := h.reads ++ [{ id := h.next, window := w, group := g, status := .presented }] } } })) ∧
    (∀ a q z, s.forwarded w g i = none → h.reads = a ++ q :: z → (∀ x ∈ a, ¬(x.window = w ∧ x.group = g)) →
      q.window = w → q.group = g →
      ((q.status = .presented ∨ q.status = .outstanding) →
        exec .beatHandle s = .next (s.withResult h (.awaiting q.id)).settle) ∧
      (∀ d, q.status = .returned d →
        exec .beatHandle s =
          .next (s.withResult h (.done ((s.win w).decode s.colour ((s.win w).fmt.getSlot d i)))).settle) ∧
      (q.status = .failed → exec .beatHandle s = .next (s.withResult h (.fault .memory)).settle))

/-- Passthrough runs: a WRITE run that meets an adaptive window's memory faults GUARD whole; any other run is formed, every
GATHERING line whose group memory it meets starts flushing with cause OVERLAP, and it waits on every line that it meets; a run whose
wait set is empty presents (R56, R153, R154). An ARM of an adaptive window, accepted while a WRITE run that meets its memory is
held, withdraws the pieces not yet issued, whose beats fault GUARD, and leaves any other run (R155); data that reads of the window
have brought serves no beat any more (log entry 8). -/
def Obligations.PassthroughRuns : Prop :=
  ∀ (s : State) (h : Handling) (r : HostRequest),
    (s.readyFor h r → s.windowAt (requestBeatAddr r h.next) = none → s.gatherLaw →
      let last := s.runLast r (requestLength r) h.next
      let lo := requestBeatAddr r h.next
      let hi := requestBeatAddr r last + 4
      let guard : Prop := requestIsRead r = false ∧
        ∃ v, (s.win v).state ≠ .off ∧ (s.win v).adaptive = true ∧ meet lo hi (s.win v).memLo (s.win v).memHi
      let p (l : LineId) : Prop := let w := s.win (s.line l).window
        meet lo hi (w.groupAddr (s.line l).group) (w.groupAddr (s.line l).group + w.fmt.bytes)
      (guard → exec .beatHandle s = .next (State.settle
        { s with
          host :=
            { s.host with
              handling := some
                { h with
                  results := h.results.mapIdx (fun i x => if h.next ≤ i ∧ i ≤ last then .fault .guard else x)
                  next := last + 1
                  activity := .ready } } })) ∧
      (¬guard → ∃ (u : State) (set : List LineId), exec .beatHandle s = .next u.settle ∧
        u.host = { s.host with handling := some { h with activity := .running (formRun r h.next last set) } } ∧
        (∀ l, l ∈ set ↔ (s.line l).state ≠ .free ∧ p l) ∧
        (∀ l, (s.line l).state = .gathering → p l → u.line l = (s.line l).inFlush (s.win (s.line l).window) .overlap) ∧
        (∀ l, ¬((s.line l).state = .gathering ∧ p l) → u.line l = s.line l) ∧
        (∀ l, l ∈ u.gather.age ↔ l ∈ s.gather.age ∧ ¬p l) ∧
        (∃ x, u.gather.order = s.gather.order ++ x ∧ x.Sublist s.gather.age ∧ ∀ l, l ∈ x ↔ l ∈ s.gather.age ∧ p l) ∧
        u.colour = s.colour ∧ u.mirror = s.mirror ∧ u.windows = s.windows ∧ u.scan = s.scan ∧ u.engine = s.engine ∧
        u.link = s.link ∧ u.faults = s.faults ∧ u.port = s.port ∧ u.memory = s.memory)) ∧
    (∀ q, s.host.handling = some h → h.activity = .running q → q.wait = [] → q.presenting = false →
      exec .runIssue s = .next (State.settle
        { s with host := { s.host with handling := some { h with activity := .running { q with presenting := true } } } })) ∧
    (∀ (w : WindowId) q, s.takesActions → (s.win w).state = .off → (s.win w).valid = true → s.meetsOther w = false →
      (s.win w).adaptive = true → s.engine = .idle → s.host.handling = some h → h.activity = .running q →
      let met : Prop := q.write = true ∧ meet q.lo q.hi (s.win w).memLo (s.win w).memHi
      ∃ u : State, exec (.arm (BitVec.ofNat 8 w.val)) s = .next u.settle ∧
        (∀ x xs, met → q.pieces = x :: xs → u.host.handling = some
          { next := q.last + 1
            results := h.results.mapIdx (fun i y => if x.first ≤ i ∧ i ≤ q.last then .fault .guard else y)
            activity := .ready
            reads := h.reads.filter (fun x => x.window ≠ w) }) ∧
        (¬met → u.host.handling = some { h with reads := h.reads.filter (fun x => x.window ≠ w) }))

/-- A run holds the beats from its first on that are passthrough, up to one that is not or the end of the request, and is cut at
the 64-byte boundary into one piece or two. A piece asks for the words from its first beat's to its last beat's; a write piece has
each beat's data in the beat's four bytes, masked by its strobes, and every other mask clear (R153). -/
def Obligations.RunPieces : Prop :=
  (∀ (s : State) (r : HostRequest) (i : Nat), i < requestLength r → s.windowAt (requestBeatAddr r i) = none →
    let last := s.runLast r (requestLength r) i
    i ≤ last ∧ last < requestLength r ∧ (∀ j, i ≤ j → j ≤ last → s.windowAt (requestBeatAddr r j) = none) ∧
      (last + 1 < requestLength r → s.windowAt (requestBeatAddr r (last + 1)) ≠ none)) ∧
  (∀ (r : HostRequest) (first last : Nat) (wait : List LineId),
    let a (i : Nat) : Nat := (requestAddr r).toNat + 4 * i
    let run := formRun r first last wait
    first ≤ last → last < requestLength r → requestLength r ≤ 16 → (requestAddr r).toNat % 4 = 0 →
    run.write = !requestIsRead r ∧ run.first = first ∧ run.last = last ∧ run.lo = a first ∧ run.hi = a last + 4 ∧
      run.wait = wait ∧ run.presenting = false ∧
      (a first / 64 = a last / 64 → run.pieces = [{ first := first, last := last, req := pieceRequest r first last }]) ∧
      (a first / 64 ≠ a last / 64 → ∃ m, first ≤ m ∧ m < last ∧ a m / 64 = a first / 64 ∧ a (m + 1) / 64 = a last / 64 ∧
        run.pieces =
          [{ first := first, last := m, req := pieceRequest r first m },
            { first := m + 1, last := last, req := pieceRequest r (m + 1) last }])) ∧
  ∀ (r : HostRequest) (i j : Nat),
    let a (i : Nat) : Nat := (requestAddr r).toNat + 4 * i
    let q := pieceRequest r i j
    i ≤ j → a i / 64 = a j / 64 →
    q.write = !requestIsRead r ∧ q.addr = BitVec.ofNat 32 (a i / 8 * 8) ∧ q.words = a j / 8 + 1 - a i / 8 ∧
      (requestIsRead r = false → ∀ n, n < 8 * q.words →
        (∀ m k, i ≤ m → m ≤ j → k < 4 → a i / 8 * 8 + n = a m + k →
          blockByte q.data n = (requestBeat r m).data.extractLsb' (8 * k) 8 ∧
            q.mask.getLsbD n = (requestBeat r m).strobes.getLsbD k) ∧
        (a i / 8 * 8 + n < a i ∨ a j + 4 ≤ a i / 8 * 8 + n → q.mask.getLsbD n = false))

/-! ### Memory link -/

/-- What each block presents to the issue arbiter: a flush presents its group's read in READ_WAIT and its group's write in
WRITE_WAIT, and the flush engine that of the first line of the flush order that has one; host ingress presents its group read, or
the next piece of its run; the window engine presents a fill's writes and a release's reads, and the scan unit its reads, 64 bytes
at a time up to the end of the window's memory, and nothing once the operation has failed or been aborted (R30, R32, R33, R37, R39,
R62, R63, R66, R120, R140, R152, R154, Table 6-1). -/
def Obligations.RequestContents : Prop :=
  (∀ (s : State) (l : LineId),
    let ln := s.line l
    let w := s.win ln.window
    let asks (q : MemRequest) : Prop :=
      q.addr = BitVec.ofNat 32 (w.mbase.toNat + ln.group * w.fmt.bytes) ∧ 8 * q.words = w.fmt.bytes
    (ln.state = .flushing → ln.issued = false → ln.phase = some .readWait →
      ∃ q, s.lineRequest l = some (q, .flushRead l) ∧ q.write = false ∧ asks q) ∧
    (ln.state = .flushing → ln.issued = false → ln.phase = some .writeWait →
      ∃ q, s.lineRequest l = some (q, .flushWrite l) ∧ q.write = true ∧ asks q ∧
        ∀ j < w.fmt.bytes, blockByte q.data j = (ln.merged w).extractLsb' (8 * j) 8 ∧ q.mask.getLsbD j = true) ∧
    (ln.state ≠ .flushing ∨ ln.issued = true ∨ ln.phase ≠ some .readWait ∧ ln.phase ≠ some .writeWait →
      s.lineRequest l = none) ∧
    (s.gather.present = some l → s.flushRequest = s.lineRequest l) ∧ (s.gather.present = none → s.flushRequest = none) ∧
    (∀ a z, s.gather.present = none → s.gather.order = a ++ l :: z → (∀ k ∈ a, s.lineRequest k = none) →
      s.lineRequest l ≠ none → s.presentEvent = some { s with gather := { s.gather with present := some l } })) ∧
  (∀ (s : State) (h : Handling), s.host.handling = some h →
    (∀ id a r z, h.activity = .reading id → h.reads = a ++ r :: z → (∀ x ∈ a, x.id ≠ id) → r.id = id →
      ∃ q, s.hostRequest = some (q, .hostGroup id) ∧ q.write = false ∧
        q.addr = BitVec.ofNat 32 ((s.win r.window).mbase.toNat + r.group * (s.win r.window).fmt.bytes) ∧
        8 * q.words = (s.win r.window).fmt.bytes) ∧
    (∀ r p rest, h.activity = .running r → r.presenting = true → r.pieces = p :: rest →
      s.hostRequest = some (p.req, if r.write then .posted else .hostPiece p.first)) ∧
    (∀ r, h.activity = .running r → r.presenting = false → s.hostRequest = none) ∧
    (∀ b, h.activity = .ready ∨ h.activity = .placing b → s.hostRequest = none)) ∧
  (∀ (s : State) (w : WindowId) (next : Nat),
    let n := min 64 ((s.win w).memHi - next)
    (∀ f, s.engine = .filling f → f.window = w → f.next = next →
      (f.phase = .writing → f.failed = none → f.aborted = false → next < (s.win w).memHi →
        ∃ q, s.engineRequest = some (q, .fill) ∧ q.write = true ∧ q.addr = BitVec.ofNat 32 next ∧ q.words = n / 8 ∧
          (∀ j < n, blockByte q.data j =
            if (s.win w).format = 4 then BitVec.ofNat 8 (17 * ((s.win w).fillEntry.toNat % 16)) else (s.win w).fillEntry) ∧
          ∀ j < n, q.mask.getLsbD j = true) ∧
      (f.phase ≠ .writing ∨ f.failed ≠ none ∨ f.aborted = true ∨ (s.win w).memHi ≤ next → s.engineRequest = none)) ∧
    (∀ r, s.engine = .releasing r → r.window = w → r.next = next →
      (r.reading = true → r.failed = none → next < (s.win w).memHi →
        ∃ q, s.engineRequest = some (q, .release) ∧ q.write = false ∧ q.addr = BitVec.ofNat 32 next ∧ q.words = n / 8) ∧
      (r.reading = false ∨ r.failed ≠ none ∨ (s.win w).memHi ≤ next → s.engineRequest = none)) ∧
    (s.engine = .idle → s.engineRequest = none) ∧
    (s.scan.window = w → s.scan.next = next →
      (s.scan.state = .reading → next < (s.win w).memHi →
        ∃ q, s.scanRequest = some (q, .scan) ∧ q.write = false ∧ q.addr = BitVec.ofNat 32 next ∧ q.words = n / 8) ∧
      (s.scan.state ≠ .reading ∨ (s.win w).memHi ≤ next → s.scanRequest = none)))

/-- The arbiter grants to the first presenting block in its fixed order, and the request joins the tail of the list; the requester
learns of it: the line's request is issued; the group read is outstanding and ingress goes on; the beats of a posted piece are done,
and those of a read piece await it; the window engine and the scan unit go on to their next address (R30, R37, R62, R122, R125,
R126, R140, R152, R154, R156). -/
def Obligations.IssueGrantJoins : Prop :=
  ∀ (s : State) (q : MemRequest) (b : Requester),
    s.link.halted = false → s.link.outstanding.length < 4 →
    (s.flushRequest = some (q, b) ∨
      s.flushRequest = none ∧ (s.hostRequest = some (q, b) ∨
        s.hostRequest = none ∧ (s.engineRequest = some (q, b) ∨
          s.engineRequest = none ∧ s.scanRequest = some (q, b)))) →
    ∃ u : State, exec .issueGrant s = .next u.settle ∧
      u.link = { s.link with outstanding := s.link.outstanding ++ [{ req := q, by' := b, age := 0 }] } ∧
      (∀ l, b = .flushRead l ∨ b = .flushWrite l →
        u.gather =
          { s.gather with present := none, lines := s.gather.lines.set l { s.line l with issued := true } }) ∧
      ((∀ l, b ≠ .flushRead l ∧ b ≠ .flushWrite l) → u.gather = s.gather) ∧
      (∀ h id, s.host.handling = some h → h.activity = .reading id → b = .hostGroup id →
        u.host = { s.host with
          handling := some
            { h with
              reads := h.reads.map (fun r => if r.id = id then { r with status := .outstanding } else r)
              activity := .ready
              next := id + 1 } }) ∧
      (∀ h r p rest, s.host.handling = some h → h.activity = .running r → r.pieces = p :: rest →
        (b = .posted ∨ b = .hostPiece p.first) →
        u.host = { s.host with
          handling := some
            { h with
              results := h.results.mapIdx (fun i x =>
                if p.first ≤ i ∧ i ≤ p.last then (if r.write then .done 0 else .awaiting p.first) else x)
              activity := if rest = [] then .ready else .running { r with pieces := rest }
              next := if rest = [] then r.last + 1 else h.next } }) ∧
      ((∀ id, b ≠ .hostGroup id ∧ b ≠ .hostPiece id) → b ≠ .posted → u.host = s.host) ∧
      (∀ f, s.engine = .filling f → b = .fill →
        u.engine = .filling { f with next := f.next + min 64 ((s.win f.window).memHi - f.next) }) ∧
      (∀ r, s.engine = .releasing r → b = .release →
        u.engine = .releasing { r with next := r.next + min 64 ((s.win r.window).memHi - r.next) }) ∧
      (b ≠ .fill → b ≠ .release → u.engine = s.engine) ∧
      (b = .scan → u.scan =
        { s.scan with next := s.scan.next + min 64 ((s.win s.scan.window).memHi - s.scan.next) }) ∧
      (b ≠ .scan → u.scan = s.scan) ∧
      u.memory = s.memory ∧ u.faults = s.faults ∧ u.colour = s.colour ∧ u.windows = s.windows ∧ u.mirror = s.mirror ∧
      u.port = s.port

/-- A flush read that returns OK brings the group data, and for a COUNTED flush the old index under each occupied slot, and the line
enters MIRROR_WAIT (R63). A flush write that returns OK has been performed; a COUNTED flush takes its old indices out of the counts;
the line is FREE and leaves the flush order and every wait set: the scan's, FLUSH_ALL's, a run's, a held beat's (R55, R66, R88,
R121). The fields of a FREE line other than its state are the model's (log entry 17), and so is which data read for its group still
serves (log entry 8). -/
def Obligations.FlushResponsesOk : Prop :=
  ∀ (s : State) (q : MemRequest) (l : LineId) (age : Nat) (rest : List Outstanding) (ws : List Word64),
    let ln := s.line l
    let w := s.win ln.window
    let d : GroupData := (s.memory.reply q ws).setWidth 192
    s.inSoftReset = false →
    (s.link.outstanding = { req := q, by' := .flushRead l, age := age } :: rest → q.write = false →
      exec (.memoryResponse (.ok ws)) s = .next (State.settle
        { s.withHeadGone rest with
          gather :=
            { s.gather with
              lines := s.gather.lines.set l
                { ln with
                  data := d
                  oldIndices :=
                    if ln.kind = some .counted then ln.occupied.map (fun p => w.entryOf (w.fmt.getSlot d p.1)) else []
                  phase := some .mirrorWait
                  issued := false } } })) ∧
    (s.link.outstanding = { req := q, by' := .flushWrite l, age := age } :: rest → q.write = true →
      ∃ u : State, exec (.memoryResponse (.ok ws)) s = .next u.settle ∧
        u.memory = s.memory.perform q ∧ u.link = { s.link with outstanding := rest } ∧ s.lineLeft u l ∧
        u.colour = (if ln.kind = some .counted then s.colour.subCounts ln.oldIndices else s.colour) ∧
        u.faults = s.faults ∧ u.windows = s.windows ∧ u.mirror = s.mirror ∧ u.engine = s.engine)

/-- A flush that returns ERROR loses its data with a LOST_WRITE record, a COUNTED one takes the entries of its own slots out of the
counts, and the line is FREE and leaves the flush order and every wait set (R55, R67, R88); a posted write that returns ERROR
appends a record with the address of its lowest masked byte (R127, Table 10-1). The fields of a FREE line other than its state are
the model's (log entry 17), and so is which data read for its group still serves (log entry 8). -/
def Obligations.ErrorResponsesRecorded : Prop :=
  ∀ (s : State) (o : Outstanding) (rest : List Outstanding),
    s.link.outstanding = o :: rest → s.inSoftReset = false →
    (∀ l, o.by' = .flushRead l ∨ o.by' = .flushWrite l →
      ∃ u : State, exec (.memoryResponse .error) s = .next u.settle ∧ s.flushLost u l ∧ u.link = { s.link with outstanding := rest }) ∧
    (∀ j, o.by' = .posted → j < 8 * o.req.words → o.req.mask.getLsbD j = true → (∀ i < j, o.req.mask.getLsbD i = false) →
      ∃ u : State, exec (.memoryResponse .error) s = .next u.settle ∧
        u.faults = s.faults.append
          { cause := .postedWriteError, window := none, addr := some (o.req.addr + BitVec.ofNat 32 j), entry := none,
            flush := none } ∧
        u.gather = s.gather ∧ u.host = s.host ∧ u.memory = s.memory ∧ u.link = { s.link with outstanding := rest })

/-- What ERROR does at each requester, whether a response brings it, a memory timeout or a HALTED link (R123, R124, R129, Table
6-2). A flush loses its data (R67). A group read or a read piece faults the beats that await it MEMORY (R70, R156). A posted write
leaves its record, whose address is a free value where no mask is set (R127; log entry 7). A fill or release keeps its first failing
address (R32, R39), and ends once none of its requests is outstanding, the end left to a later step where `wait` holds (R31, R33,
R38; log entry 14). A scan ends with MEM_ERROR, and its reads that return later are discarded (R144, R145). -/
def Obligations.ErrorsDelivered : Prop :=
  (∀ (s : State) (o : Outstanding) (rest : List Outstanding), s.link.outstanding = o :: rest → s.inSoftReset = false →
    exec (.memoryResponse .error) s = .next (State.settle ((s.withHeadGone rest).deliverError o false))) ∧
  ∀ (s : State) (o : Outstanding) (wait : Bool),
    let u := s.deliverError o wait
    let answered (h : Handling) (id : Nat) := h.results.mapIdx (fun _ x => if x = .awaiting id then .fault .memory else x)
    let posted (a : Word32) : FaultQueue := s.faults.append
      { cause := .postedWriteError, window := none, addr := some a, entry := none, flush := none }
    (∀ l, o.by' = .flushRead l ∨ o.by' = .flushWrite l → u = s.flushFail l ∧ s.flushLost u l ∧ u.link = s.link) ∧
    (∀ id, o.by' = .hostGroup id ∨ o.by' = .hostPiece id → s.host.handling = none → u = s) ∧
    (∀ id h, o.by' = .hostGroup id → s.host.handling = some h →
      u = { s with
        host :=
          { s.host with
            handling := some
              { h with
                results := answered h id
                reads := h.reads.map (fun x => if x.id = id then { x with status := .failed } else x) } } }) ∧
    (∀ id h, o.by' = .hostPiece id → s.host.handling = some h →
      u = { s with host := { s.host with handling := some { h with results := answered h id } } }) ∧
    (o.by' = .posted →
      (∀ j, j < 8 * o.req.words → o.req.mask.getLsbD j = true → (∀ i < j, o.req.mask.getLsbD i = false) →
        u = { s with faults := posted (o.req.addr + BitVec.ofNat 32 j) }) ∧
      ((∀ j < 8 * o.req.words, o.req.mask.getLsbD j = false) →
        ∃ a, u = { s with faults := posted a, freeCount := s.freeCount + 1 })) ∧
    (o.by' = .fill ∨ o.by' = .release →
      u = (if wait then s.engineFail o.req.addr else (s.engineFail o.req.addr).engineFinish)) ∧
    (∀ a, (s.engine = .idle → s.engineFail a = s) ∧
      (∀ f, s.engine = .filling f →
        s.engineFail a = { s with
          engine := .filling (if f.failed = none ∧ f.aborted = false then { f with failed := some a } else f) }) ∧
      ∀ r, s.engine = .releasing r →
        s.engineFail a = { s with engine := .releasing (if r.failed = none then { r with failed := some a } else r) }) ∧
    s.engineEnds s.engineFinish ∧
    (o.by' = .scan →
      (s.scan.state = .idle ∨ s.scan.state = .flushing → u = s) ∧ (s.scan.state = .reading → u = s.scanEnd .memError 0) ∧
      (s.scan.state = .aborting →
        ((∃ x ∈ s.link.outstanding, x.by' = .scan) → u = s) ∧
        (¬(∃ x ∈ s.link.outstanding, x.by' = .scan) → u = { s with scan := { s.scan with state := .idle } }))) ∧
    s.scanLost (s.scanEnd .memError 0)

/-- Responses to host ingress: a group read that returns OK gives each beat it serves its pixel, decoded, and is kept for later
beats (log entry 8); a read piece gives each beat the four bytes at its address; an ERROR faults each of these beats MEMORY; a
posted write that returns OK is performed and has no other effect (R70, R121, R127, R152, R156). The data of an OK is the words that
the response gives, and for a word not given what memory holds (log entry 5). -/
def Obligations.HostReadsAnswered : Prop :=
  (∀ (s : State) (h : Handling) (r : HostRequest) (q : MemRequest) (id age : Nat) (rest : List Outstanding),
    s.inSoftReset = false → q.write = false → s.host.handling = some h → s.host.queue.head? = some r →
    let d (ws : List Word64) := s.memory.reply q ws
    let answered (f : Nat → BeatResult) := h.results.mapIdx (fun i x => if x = .awaiting id then f i else x)
    let next (x : Handling) : State := { s.withHeadGone rest with host := { s.host with handling := some x } }
    (s.link.outstanding = { req := q, by' := .hostGroup id, age := age } :: rest →
      (∀ ws a g z, h.reads = a ++ g :: z → (∀ x ∈ a, x.id ≠ id) → g.id = id →
        let w := s.win g.window
        exec (.memoryResponse (.ok ws)) s = .next (State.settle (next
          { h with
            results := answered (fun i =>
              .done (w.decode s.colour (w.fmt.getSlot ((d ws).setWidth 192) (w.slotOf (requestBeatAddr r i)))))
            reads := h.reads.map (fun x => if x.id = id then { x with status := .returned ((d ws).setWidth 192) } else x) }))) ∧
      exec (.memoryResponse .error) s = .next (State.settle (next
        { h with
          results := answered (fun _ => .fault .memory)
          reads := h.reads.map (fun x => if x.id = id then { x with status := .failed } else x) }))) ∧
    (s.link.outstanding = { req := q, by' := .hostPiece id, age := age } :: rest →
      (∀ ws, exec (.memoryResponse (.ok ws)) s = .next (State.settle (next
        { h with results := answered (fun i => .done (blockBeat (d ws) (requestBeatAddr r i - q.addr.toNat))) }))) ∧
      exec (.memoryResponse .error) s = .next (State.settle (next { h with results := answered (fun _ => .fault .memory) })))) ∧
  (∀ (s : State) (q : MemRequest) (age : Nat) (rest : List Outstanding) (ws : List Word64),
    s.inSoftReset = false → s.link.outstanding = { req := q, by' := .posted, age := age } :: rest → q.write = true →
    exec (.memoryResponse (.ok ws)) s = .next (State.settle { s.withHeadGone rest with memory := s.memory.perform q })) ∧
  (∀ (m : Memory) (q : MemRequest) (ws : List Word64) (j : Nat), q.words ≤ 8 → j < 8 * q.words →
    (∀ x, ws[j / 8]? = some x → blockByte (m.reply q ws) j = x.extractLsb' (8 * (j % 8)) 8) ∧
    (ws[j / 8]? = none → blockByte (m.reply q ws) j = m.byte (q.addr.toNat + j))) ∧
  ∀ (d : Block) (off k : Nat), off + 4 ≤ 64 → k < 4 → (blockBeat d off).extractLsb' (8 * k) 8 = blockByte d (off + k)

/-- Responses to the window engine. A fill fails at its first ERROR and is not examined further, or after an abort; once none of its
writes is outstanding it ends, ARMED where every write has been issued and returned OK, and OFF with its count taken back where it
was aborted, or failed, then with a FILL_FAILED record (R30, R31, R32, R33, R89). A release read that returns OK takes the entries
of the pixels it covers out of the counts and advances the release pointer; an ERROR fails the release, and what returns later is
discarded; once none of its reads is outstanding it ends OFF, at the end of the memory range, or with suspect set and a
RELEASE_FAILED record where it failed (R37, R38, R39, R90). -/
def Obligations.EngineResponses : Prop :=
  (∀ (s : State) (f : Fill) (q : MemRequest) (age : Nat) (rest : List Outstanding) (r : MemReply),
    let w := s.win f.window
    let g : Fill := if r = .error ∧ f.failed = none ∧ f.aborted = false then { f with failed := some q.addr } else f
    let on : State :=
      { s.withHeadGone rest with
        memory := if r = .error then s.memory else s.memory.perform q
        engine := .filling g }
    let off : State :=
      { on with
        engine := .idle
        colour := s.colour.subCount w.fillEntryId w.pixels.toNat
        windows := s.windows.set f.window { w with state := .off } }
    let waits : Prop := ∃ o ∈ rest, o.by' = .fill ∨ o.by' = .release
    let cmd := exec (.memoryResponse r) s
    s.inSoftReset = false → s.engine = .filling f → q.write = true →
    s.link.outstanding = { req := q, by' := .fill, age := age } :: rest →
    (waits → cmd = .next on.settle) ∧
    (∀ a, ¬waits → g.failed = some a → cmd = .next (State.settle
      { off with
        faults := s.faults.append
          { cause := .fillFailed, window := some f.window, addr := some a, entry := some w.fillEntryId, flush := none } })) ∧
    (¬waits → g.failed = none → f.aborted = true → cmd = .next off.settle) ∧
    (¬waits → g.failed = none → f.aborted = false → f.phase = .writing → w.memHi ≤ f.next → cmd = .next (State.settle
      { on with engine := .idle, windows := s.windows.set f.window { w with state := .armed } })) ∧
    (¬waits → g.failed = none → f.aborted = false → (f.phase ≠ .writing ∨ f.next < w.memHi) → cmd = .next on.settle)) ∧
  (∀ (s : State) (e : Release) (q : MemRequest) (age : Nat) (rest : List Outstanding) (r : MemReply),
    let w := s.win e.window
    let waits : Prop := ∃ o ∈ rest, o.by' = .fill ∨ o.by' = .release
    let cmd := exec (.memoryResponse r) s
    s.inSoftReset = false → s.engine = .releasing e → q.write = false →
    s.link.outstanding = { req := q, by' := .release, age := age } :: rest →
    (∀ ws, r = .ok ws → e.failed = none →
      let on : State :=
        { s.withHeadGone rest with
          colour := s.colour.subCounts
            ((w.fmt.pixelsOf (blockBytes (s.memory.reply q ws) (8 * q.words))).1.map w.entryOf)
          engine := .releasing { e with pointer := e.pointer + 8 * q.words } }
      (waits ∨ e.reading = false ∨ e.pointer + 8 * q.words < w.memHi → cmd = .next on.settle) ∧
      (¬waits → e.reading = true → w.memHi ≤ e.pointer + 8 * q.words → cmd = .next (State.settle
        { on with engine := .idle, windows := s.windows.set e.window { w with state := .off } }))) ∧
    (∀ a, e.failed = some a ∨ r = .error ∧ e.failed = none ∧ a = q.addr →
      (waits → cmd = .next (State.settle { s.withHeadGone rest with engine := .releasing { e with failed := some a } })) ∧
      (¬waits → cmd = .next (State.settle
        { s.withHeadGone rest with
          engine := .idle
          colour := { s.colour with suspect := true }
          windows := s.windows.set e.window { w with state := .off }
          faults := s.faults.append
            { cause := .releaseFailed, window := some e.window, addr := some a, entry := none, flush := none } })))) ∧
  ∀ (w : Window) (bs : List Byte),
    (w.format = 3 → (w.fmt.pixelsOf bs).1.map w.entryOf = bs.map (fun b => Fin.ofNat 256 b.toNat)) ∧
    (w.format = 4 → (w.fmt.pixelsOf bs).1.map w.entryOf =
      bs.flatMap (fun b =>
        [Fin.ofNat 256 (16 * w.partition.toNat + b.toNat % 16), Fin.ofNat 256 (16 * w.partition.toNat + b.toNat / 16)]))

/-- Responses that reach no requester: with an empty list a STRAY_RESPONSE record and nothing else; during a soft reset the head
leaves the list, with the model's mark of the timeout (log entry 21, R130), and a write that returned OK has been performed (R131,
R133). -/
def Obligations.ResponsesDiscarded : Prop :=
  ∀ (s : State) (r : MemReply),
    (s.link.outstanding = [] →
      exec (.memoryResponse r) s = .next (State.settle
        { s with
          faults := s.faults.append { cause := .strayResponse, window := none, addr := none, entry := none, flush := none } })) ∧
    (∀ o rest, s.link.outstanding = o :: rest → s.inSoftReset = true →
      exec (.memoryResponse r) s = .next (State.settle
        { s with
          link := { s.link with outstanding := rest }
          ripe := { s.ripe with timeout := false }
          memory := if o.req.write = true ∧ r ≠ .error then s.memory.perform o.req else s.memory }))

/-- A scan read that returns OK feeds the pixels it completes to the CRC, each as its bytes B, G, R, K, by eight steps a byte; the
last one ends the scan: the record takes the reserved place with the epoch stepped, and the unit is IDLE (R140, R141, R143). An
ERROR ends it with MEM_ERROR and CRC 0 (R145). In ABORTING a response is discarded, and after the last one the unit is IDLE (R144).
-/
def Obligations.ScanReadsAnswered : Prop :=
  (∀ (crc p : Word32),
    let shift (c : Word32) : Word32 := if c.getLsbD 0 then (c >>> 1) ^^^ 0xEDB88320 else c >>> 1
    let fold (c : Word32) (b : Byte) : Word32 := shift^[8] (c ^^^ b.setWidth 32)
    crcPixel crc p =
      fold (fold (fold (fold crc (p.extractLsb' 0 8)) (p.extractLsb' 8 8)) (p.extractLsb' 16 8)) (p.extractLsb' 24 8)) ∧
  ∀ (s : State) (q : MemRequest) (age : Nat) (rest : List Outstanding) (r : MemReply),
    s.link.outstanding = { req := q, by' := .scan, age := age } :: rest → q.write = false → s.inSoftReset = false →
    let w := s.win s.scan.window
    let waits : Prop := ∃ o ∈ rest, o.by' = .scan
    let ended (st : ScanState) (crc : Word32) (x : ResultStatus) (u : State) : Prop :=
      exec (.memoryResponse r) s = .next u.settle ∧
        u.scan.state = st ∧ u.scan.wait = [] ∧ u.scan.kept = [] ∧
        u.scan.results = s.scan.results ++
          [{ window := s.scan.window, epoch := w.epoch + 1, crc := crc, status := x, trigger := s.scan.trigger }] ∧
        u.windows = s.windows.set s.scan.window { w with epoch := w.epoch + 1 } ∧
        u.link = { s.link with outstanding := rest } ∧ u.memory = s.memory ∧ u.colour = s.colour ∧ u.gather = s.gather ∧
        u.faults = s.faults ∧ u.host = s.host ∧ u.engine = s.engine ∧ u.port = s.port
    (∀ ws, s.scan.state = .reading → r = .ok ws →
      let fed := w.fmt.pixelsOf (s.scan.kept ++ blockBytes (s.memory.reply q ws) (8 * q.words))
      let crc := fed.1.foldl (fun c p => crcPixel c (w.decode s.colour p)) s.scan.crc
      (w.memHi ≤ s.scan.next → ¬waits → ∃ u, ended .idle (~~~crc) (if s.scan.disturbed then .disturbed else .clean) u) ∧
      (s.scan.next < w.memHi ∨ waits → exec (.memoryResponse r) s = .next (State.settle
        { s.withHeadGone rest with scan := { s.scan with crc := crc, kept := fed.2 } }))) ∧
    (s.scan.state = .reading → r = .error →
      (waits → ∃ u, ended .aborting 0 .memError u) ∧ (¬waits → ∃ u, ended .idle 0 .memError u)) ∧
    (s.scan.state = .aborting →
      (waits → exec (.memoryResponse r) s = .next (s.withHeadGone rest).settle) ∧
      (¬waits → exec (.memoryResponse r) s = .next (State.settle
        { s.withHeadGone rest with scan := { s.scan with state := .idle } })))

/-- The memory timeout (R129): the MEMORY_TIMEOUT record comes first; then every member completes as ERROR at its requester, in
issue order, or is discarded in a soft reset (R133); the list is empty and the link HALTED; then the requests presented are answered
ERROR in the order of the arbiter, once each (log entry 15), the window engine's where it presented at the expiry (log entry 14). So
the records stand in that order. A write given up may have been performed (R68; log entry 6: a free value). The mirror link, the
outputs and the settings are as before. While the link is HALTED no request is issued, and each presented one is answered ERROR at
once (R124); the order between blocks that present in one event is the model's choice (log entry 27). -/
def Obligations.MemoryTimeoutHalts : Prop :=
  (∀ (s : State) (o : Outstanding) (rest : List Outstanding),
    s.link.outstanding = o :: rest → s.timeoutDue = true →
    (∃ u : State, exec .memoryTimeout s = .next u.settle ∧ u.link = { halted := true, outstanding := [] } ∧
      (s.faults.append
        { cause := .memoryTimeout, window := none, addr := some o.req.addr, entry := none, flush := none }).records
          <+: u.faults.records ∧
      u.mirror = s.mirror ∧ u.out = s.out ∧ u.port.settings = s.port.settings) ∧
    ∃ (late : List Outstanding) (n : Nat), late.Sublist s.link.outstanding ∧
      let recorded : State :=
        { s with
          faults := s.faults.append
            { cause := .memoryTimeout, window := none, addr := some o.req.addr, entry := none, flush := none }
          memory := late.foldl (fun m x => if x.req.write then m.perform x.req else m) s.memory
          freeCount := n }
      exec .memoryTimeout s = .next (State.settle (State.failPresented
        { recorded.failAll s.engineRequest.isSome s.link.outstanding with link := { halted := true, outstanding := [] } }
        s.engineRequest))) ∧
  (∀ (s : State) (wait : Bool) (o : Outstanding) (rest : List Outstanding),
    s.failAll wait [] = s ∧
    (s.inSoftReset = true → s.failAll wait (o :: rest) = (s.withHeadGone rest).failAll wait rest) ∧
    (s.inSoftReset = false → s.failAll wait (o :: rest) = ((s.withHeadGone rest).deliverError o wait).failAll wait rest)) ∧
  (∀ (s : State) (e : Option (MemRequest × Requester)), ∃ a b c : State,
    (∀ l, s.gather.present = some l → a = s.flushFail l) ∧ (s.gather.present = none → a = s) ∧
    (a.hostRequest ≠ none → a.hostRefused b) ∧ (a.hostRequest = none → b = a) ∧
    (∀ q y, e = some (q, y) → c = (b.engineFail q.addr).engineFinish) ∧ (e = none → c = b) ∧
    (c.scanRequest ≠ none → s.failPresented e = c.scanEnd .memError 0) ∧ (c.scanRequest = none → s.failPresented e = c)) ∧
  ∀ s : State,
    (s.link.halted = false → s.haltedEvent = none) ∧
    (s.link.halted = true →
      exec .issueGrant s = .next s ∧
      (∀ l, s.gather.present = some l → s.haltedEvent = some (s.flushFail l)) ∧
      (s.gather.present = none → s.hostRequest ≠ none → ∃ u, s.haltedEvent = some u ∧ s.hostRefused u) ∧
      (s.gather.present = none → s.hostRequest = none →
        (∀ q y, s.engineRequest = some (q, y) → s.haltedEvent = some (s.engineFail q.addr).engineFinish) ∧
        (s.engineRequest = none →
          (s.scanRequest ≠ none → s.haltedEvent = some (s.scanEnd .memError 0)) ∧
          (s.scanRequest = none → s.haltedEvent = none))))

/-! ### Gather buffer -/

/-- An idle expiry starts the line's flush, and a satisfied mirror wait sends the line to WRITE_WAIT (R53, R54, R61, R65,
R112). -/
def Obligations.LineEvents : Prop :=
  ∀ (s : State) (l : LineId),
    (s.idleDue l = true →
      ∃ u : State, exec (.idleExpiry l) s = .next u.settle ∧
        u.line l = (s.line l).inFlush (s.win (s.line l).window) .idle ∧
        (∀ j, j ≠ l → u.line j = s.line j) ∧ u.gather.age = s.gather.age.filter (· ≠ l) ∧
        u.gather.order = s.gather.order ++ [l] ∧ u.host = s.host ∧ u.windows = s.windows ∧ u.colour = s.colour ∧
        u.mirror = s.mirror ∧ u.link = s.link ∧ u.scan = s.scan ∧ u.faults = s.faults) ∧
    ((s.line l).state = .flushing → (s.line l).phase = some .mirrorWait →
      (s.mirror.link = .detached ∨ (s.mirror.sent - (s.line l).mark).toNat < 32768 ∨ s.mirror.queue = []) →
      ∃ u : State, exec (.mirrorWaitSatisfied l) s = .next u.settle ∧
        u.line l = { s.line l with phase := some .writeWait, issued := false } ∧ (∀ j, j ≠ l → u.line j = s.line j) ∧
        u.gather.age = s.gather.age ∧ u.gather.order = s.gather.order ∧ u.colour = s.colour ∧ u.mirror = s.mirror ∧
        u.link = s.link ∧ u.faults = s.faults)

/-- Where a pixel lives: the group and slot of a host address, and the group's address in memory (R3). The place of each slot's
stored value in the group's bytes (R4, Table 11-2), and the pixels that memory bytes complete, in their order (R140). The group data
that a flush writes: the stored value of each occupied slot, and the data read for every other slot, where the line's slots hold
stored values of its window's format (R4, R64). -/
def Obligations.MergedGroupData : Prop :=
  (∀ (w : Window) (a g : Nat),
    w.groupOf a = (a - w.hbase.toNat) / 4 / w.fmt.pixels ∧ (w.slotOf a).val = (a - w.hbase.toNat) / 4 % w.fmt.pixels ∧
      w.groupAddr g = w.mbase.toNat + g * w.fmt.bytes) ∧
  ([0, 1, 2, 3, 4].map fmtOfCode = [some .p24, some .p16, some .p15, some .i8, some .i4] ∧
    [Fmt.p24, .p16, .p15, .i8, .i4].map (fun f => (f.pixels, f.bytes)) = [(8, 24), (4, 8), (4, 8), (8, 8), (16, 8)]) ∧
  (∀ (d : GroupData) (i : SlotId),
    let byte (k : Nat) : Byte := d.extractLsb' (8 * k) 8
    let two : BitVec 16 := byte (2 * i.val + 1) ++ byte (2 * i.val)
    (i.val < 8 → Fmt.p24.getSlot d i = .rgb24 (byte (3 * i.val + 2)) (byte (3 * i.val + 1)) (byte (3 * i.val))) ∧
    (i.val < 4 → Fmt.p16.getSlot d i = .rgb16 (two.extractLsb' 11 5) (two.extractLsb' 5 6) (two.extractLsb' 0 5)) ∧
    (i.val < 4 →
      Fmt.p15.getSlot d i = .rgb15 (two.getLsbD 15) (two.extractLsb' 10 5) (two.extractLsb' 5 5) (two.extractLsb' 0 5)) ∧
    (i.val < 8 → Fmt.i8.getSlot d i = .index8 (byte i.val)) ∧
    Fmt.i4.getSlot d i = .index4 ((byte (i.val / 2)).extractLsb' (4 * (i.val % 2)) 4)) ∧
  (∀ (x y z : Byte) (bs : List Byte),
    let two : BitVec 16 := y ++ x
    let more (f : Fmt) (ps : List Stored) : List Stored × List Byte := (ps ++ (f.pixelsOf bs).1, (f.pixelsOf bs).2)
    Fmt.p24.pixelsOf (x :: y :: z :: bs) = more .p24 [.rgb24 z y x] ∧
    Fmt.p16.pixelsOf (x :: y :: bs) = more .p16 [.rgb16 (two.extractLsb' 11 5) (two.extractLsb' 5 6) (two.extractLsb' 0 5)] ∧
    Fmt.p15.pixelsOf (x :: y :: bs) =
      more .p15 [.rgb15 (two.getLsbD 15) (two.extractLsb' 10 5) (two.extractLsb' 5 5) (two.extractLsb' 0 5)] ∧
    Fmt.i8.pixelsOf (x :: bs) = more .i8 [.index8 x] ∧
    Fmt.i4.pixelsOf (x :: bs) = more .i4 [.index4 (x.extractLsb' 0 4), .index4 (x.extractLsb' 4 4)] ∧
    Fmt.p24.pixelsOf [x, y] = ([], [x, y]) ∧ Fmt.p24.pixelsOf [x] = ([], [x]) ∧ Fmt.p16.pixelsOf [x] = ([], [x]) ∧
    Fmt.p15.pixelsOf [x] = ([], [x]) ∧ ∀ f : Fmt, f.pixelsOf [] = ([], [])) ∧
  ∀ (w : Window) (ln : Line),
    (∀ (i : SlotId) v, ln.slots[i] = some v → i.val < w.fmt.pixels ∧ w.fmt.storedOf v.field = v) →
    ∀ i : SlotId, i.val < w.fmt.pixels →
      w.fmt.getSlot (ln.merged w) i = (ln.slots[i]).getD (w.fmt.getSlot ln.data i)

/-! ### Windows -/

/-- A drain ends OFF for a non-adaptive window and goes on to the release reads for an adaptive one, once no line and no held beat
of the window is left (R35, R36); a read beat that awaits its group read counts as held (log entry 9). The fill's first phase: none
while DETACHED; its ENTRY message is enqueued where the queue has a place; its writes begin when the message's wait is satisfied
(R29, R30, R112). -/
def Obligations.DrainAndFillPhases : Prop :=
  (∀ (s : State) (w : WindowId), s.holdsBeat w = true ↔ ∃ h, s.host.handling = some h ∧
    ((∃ b, h.activity = .placing b ∧ b.window = w) ∨
      ∃ r ∈ h.reads, r.window = w ∧ (r.status = .presented ∨ r.status = .outstanding))) ∧
  (∀ (s : State) (w : WindowId),
    (s.win w).state = .draining → (s.win w).adaptive = false →
    (∀ l, (s.line l).state ≠ .free → (s.line l).window ≠ w) → s.holdsBeat w = false → s.inSoftReset = false →
    exec (.drainComplete w) s = .next (State.settle
      { s with windows := s.windows.set w { s.win w with state := .off } })) ∧
  (∀ (s : State) (r : Release),
    s.engine = .releasing r → r.reading = false →
    (∀ l, (s.line l).state ≠ .free → (s.line l).window ≠ r.window) → s.holdsBeat r.window = false →
    exec .releasePhase2 s = .next (State.settle
      { s with
        engine := .releasing
          { r with
            reading := true, next := (s.win r.window).mbase.toNat, pointer := (s.win r.window).mbase.toNat } })) ∧
  ∀ (s : State) (f : Fill), s.engine = .filling f → f.aborted = false →
    (f.phase = .announce → s.mirror.link = .detached →
      exec .fillAnnounce s = .next (State.settle { s with engine := .filling { f with phase := .writing } })) ∧
    (f.phase = .announce → s.mirror.link ≠ .detached → s.mirror.level < 16 →
      let e := (s.win f.window).fillEntryId
      exec .fillAnnounce s = .next (State.settle
        { s with
          mirror :=
            { s.mirror with
              enqueued := s.mirror.enqueued + 1
              queue := s.mirror.queue ++
                [{ kind := .entry, seq := s.mirror.enqueued + 1, entry := e, colour := (s.entry e).colour }] }
          engine := .filling { f with phase := .sending (s.mirror.enqueued + 1) } })) ∧
    (∀ n, f.phase = .sending n →
      (s.mirror.link = .detached ∨ (s.mirror.sent - n).toNat < 32768 ∨ s.mirror.queue = []) →
      exec .fillPhase2 s = .next (State.settle { s with engine := .filling { f with phase := .writing } }))

/-! ### Mirror link -/

/-- A transmission begins with a credit held and none in progress, and takes one credit; a message sent leaves the queue and the
sent counter takes its number; RESYNC_END attaches the link (R104, R110). The place that a message frees is granted to one claimant:
the head of the held-announcement list, whose ENTRY message takes it; else the beat that waits for space, for which it is held in
reserve; else the fill that waits to be announced; else the resync generator's next message; and it stays free where no claimant
waits. A place in reserve that an attempt has not used is given up and granted anew (R107). A message sent has put its seven bytes
on MDAT: the kind's code, the number's high byte and low byte, the entry, R, G, B (R102, Table 5-3, Table 11-4). That the resync
pointer stays at 255, and that open mirror waits are examined after the grant, is the model's choice (log entries 23 and 29). -/
def Obligations.MessagesStartAndLeave : Prop :=
  ((∀ m : Message, m.bytes =
      [match m.kind with | .entry => 0x01 | .resyncBegin => 0x02 | .resyncEnd => 0x03,
        BitVec.ofNat 8 (m.seq.toNat / 256), BitVec.ofNat 8 m.seq.toNat, BitVec.ofNat 8 m.entry.val, m.colour.r, m.colour.g,
        m.colour.b]) ∧
    (∀ o : Outputs, o.messages = [] → o.mdat = []) ∧
    ∀ (o : Outputs) (m : Message), Outputs.mdat { o with messages := o.messages ++ [m] } = o.mdat ++ m.bytes) ∧
  (∀ s : State,
    (s.mirror.link ≠ .detached → 0 < s.mirror.credits → s.mirror.sending = false → s.mirror.queue ≠ [] →
      exec .transmissionStart s = .next (State.settle
        { s with mirror := { s.mirror with sending := true, credits := s.mirror.credits - 1 } })) ∧
    ∀ (m : Message) (rest : List Message), s.mirror.queue = m :: rest → s.mirror.sending = true →
      exec .messageSent s = .next (State.settle (State.grantPlace
        { s with
          mirror :=
            { s.mirror with
              queue := rest, sending := false, sent := m.seq
              link := if m.kind = .resyncEnd then .attached else s.mirror.link }
          out := { s.out with messages := s.out.messages ++ [m] } }))) ∧
  ∀ s : State,
    let n := s.mirror.enqueued + 1
    let queued (m : Message) : Mirror := { s.mirror with enqueued := n, queue := s.mirror.queue ++ [m] }
    let entry (e : EntryId) : Message := { kind := .entry, seq := n, entry := e, colour := (s.entry e).colour }
    let waits : Prop := ∃ h b, s.host.handling = some h ∧ h.activity = .placing b ∧ b.wait = .space
    let filling (f : Fill) : Prop := s.engine = .filling f ∧ f.phase = .announce ∧ f.aborted = false
    (s.mirror.reserve = false → s.dropReserve = s) ∧
    (s.mirror.reserve = true → s.dropReserve = State.grantPlace { s with mirror := { s.mirror with reserve := false } }) ∧
    s.mirror.level = s.mirror.queue.length + (if s.mirror.reserve then 1 else 0) ∧
    (s.mirror.link = .detached ∨ 16 ≤ s.mirror.level → s.grantPlace = s) ∧
    (s.mirror.link ≠ .detached → s.mirror.level < 16 →
      (∀ e es, s.colour.held = e :: es →
        s.grantPlace = { s with colour := { s.colour with held := es }, mirror := queued (entry e) }) ∧
      (s.colour.held = [] →
        (waits → s.grantPlace = { s with mirror := { s.mirror with reserve := true } }) ∧
        (∀ f, ¬waits → filling f →
          s.grantPlace = { s with
            mirror := queued (entry (s.win f.window).fillEntryId), engine := .filling { f with phase := .sending n } }) ∧
        (¬waits → (∀ f, ¬filling f) →
          (s.mirror.link ≠ .resync ∨ s.mirror.walk = .over → s.grantPlace = s) ∧
          (s.mirror.link = .resync → s.mirror.walk = .entries →
            (s.mirror.pointer ≠ 255 →
              s.grantPlace = { s with mirror := { queued (entry s.mirror.pointer) with pointer := s.mirror.pointer + 1 } }) ∧
            (s.mirror.pointer = 255 → s.grantPlace = { s with mirror := { queued (entry 255) with walk := .ending } })) ∧
          (s.mirror.link = .resync → s.mirror.walk = .ending →
            s.grantPlace = { s with
              mirror :=
                { queued { kind := .resyncEnd, seq := n, entry := 0, colour := { r := 0, g := 0, b := 0 } } with
                  walk := .over } }))))

/-- The resync generator takes a free place that no other claimant waits for: the ENTRY message of the entry at the pointer, and
RESYNC_END after that of E255 (R109). That the pointer stays at 255 after E255's message, with the end of the walk in a field of its
own, is the model's choice (log entry 23). -/
def Obligations.ResyncWalks : Prop :=
  ∀ s : State, s.mirror.link = .resync → s.mirror.level < 16 → s.colour.held = [] → s.beatWaitsSpace = false →
    s.announcing = none →
    let entry : Message :=
      { kind := .entry, seq := s.mirror.enqueued + 1, entry := s.mirror.pointer, colour := (s.entry s.mirror.pointer).colour }
    (s.mirror.walk = .entries → s.mirror.pointer ≠ 255 →
      exec .resyncEnqueue s = .next (State.settle
        { s with
          mirror :=
            { s.mirror with
              enqueued := s.mirror.enqueued + 1, queue := s.mirror.queue ++ [entry], pointer := s.mirror.pointer + 1 } })) ∧
    (s.mirror.walk = .entries → s.mirror.pointer = 255 →
      exec .resyncEnqueue s = .next (State.settle
        { s with
          mirror :=
            { s.mirror with
              enqueued := s.mirror.enqueued + 1, queue := s.mirror.queue ++ [entry], walk := .ending } })) ∧
    (s.mirror.walk = .ending →
      exec .resyncEnqueue s = .next (State.settle
        { s with
          mirror :=
            { s.mirror with
              enqueued := s.mirror.enqueued + 1
              queue := s.mirror.queue ++
                [{ kind := .resyncEnd, seq := s.mirror.enqueued + 1, entry := 0, colour := { r := 0, g := 0, b := 0 } }]
              walk := .over } }))

/-- A credit event: ignored in DETACHED; it adds 1 below 8; at 8 it appends a CREDIT_OVERFLOW record (R105, R113). The stall
interval expires: the link detaches, its messages are discarded, mirror-lost is set and a MIRROR_STALL record is appended (R114,
R116); that this record comes before those that the detach leads to in the same event is the model's choice (log entry 27). -/
def Obligations.CreditAndStall : Prop :=
  (∀ s : State,
    (s.mirror.link = .detached → exec .creditEvent s = .next s.settle) ∧
    (s.mirror.link ≠ .detached → s.mirror.credits < 8 →
      exec .creditEvent s = .next (State.settle
        { s with mirror := { s.mirror with credits := s.mirror.credits + 1, stall := 0 } })) ∧
    (s.mirror.link ≠ .detached → 8 ≤ s.mirror.credits →
      exec .creditEvent s = .next (State.settle
        { s with
          faults := s.faults.append
            { cause := .creditOverflow, window := none, addr := none, entry := none, flush := none } }))) ∧
  ∀ s : State, s.stallDue = true →
    ∃ u : State, exec .stallExpiry s = .next u.settle ∧ u.mirror.link = .detached ∧ u.mirror.queue = [] ∧
      u.mirror.sent = s.mirror.enqueued ∧ u.mirror.enqueued = s.mirror.enqueued ∧ u.mirror.credits = 0 ∧
      u.mirror.stall = 0 ∧ u.mirror.sending = false ∧ u.mirror.reserve = false ∧ u.mirror.pointer = 0 ∧
      u.mirror.lost = true ∧ u.colour = { s.colour with held := [] } ∧
      u.faults = s.faults.append { cause := .mirrorStall, window := none, addr := none, entry := none, flush := none } ∧
      u.gather = s.gather ∧ u.windows = s.windows ∧ u.host = s.host ∧ u.link = s.link

/-- The mark comparison (R111): a number is reached when (sent counter − m) mod 65536 is less than 32768, so a number equal to
the sent counter is reached and stays reached until 32768 further numbers have been sent. -/
def Obligations.MarkComparison : Prop :=
  (∀ sent m : Half, reached sent m = true ↔ (sent.toNat + 65536 - m.toNat) % 65536 < 32768) ∧
  (∀ (m : Half) (k : Nat), k < 32768 → reached (m + BitVec.ofNat 16 k) m = true) ∧
  (∀ m : Half, reached (m + BitVec.ofNat 16 32768) m = false) ∧
  reached 3 65530 = true ∧ reached 3 10 = false ∧ reached 65530 3 = false

/-! ### Scan unit -/

/-- A quiet expiry makes the timer IDLE and a dirty window pending with trigger QUIET, unless it is pending already; SCAN is
refused with NOT_ARMED for a window that is not ARMED, and otherwise sets pending with trigger COMMAND unless it is set (R135,
R136, R137). -/
def Obligations.ScansBecomePending : Prop :=
  ∀ (s : State) (w : WindowId),
    (s.quietDue w = true →
      ((s.win w).dirty = true → (s.win w).pending = false →
        exec (.quietExpiry w) s = .next (State.settle
          { s with windows := s.windows.set w { s.win w with timer := .idle, pending := true, trigger := .quiet } })) ∧
      ((s.win w).dirty = false ∨ (s.win w).pending = true →
        exec (.quietExpiry w) s = .next (State.settle
          { s with windows := s.windows.set w { s.win w with timer := .idle } }))) ∧
    (s.takesActions →
      let cmd := exec (.scan (BitVec.ofNat 8 w.val)) s
      ((s.win w).state ≠ .armed → cmd = .next (s.withRefusedAction 3 .notArmed).settle) ∧
      ((s.win w).state = .armed → (s.win w).pending = true → cmd = .next (s.withAcceptedAction 3).settle) ∧
      ((s.win w).state = .armed → (s.win w).pending = false →
        cmd = .next (State.settle
          { s.withAcceptedAction 3 with
            windows := s.windows.set w { s.win w with pending := true, trigger := .command } })))

/-- A scan starts for the lowest-numbered pending ARMED window when the unit is IDLE and a place is left; every GATHERING line of
the window starts flushing with cause SCAN, in the order of the age list, and the scan waits on the window's lines; its reads begin
when its wait set is empty (R45, R58, R138, R139, R141). That a window's trigger keeps its
value while its pending flag is clear is the model's choice (log entry 28). -/
def Obligations.ScanStarts : Prop :=
  ∀ s : State,
    (∀ w : WindowId, s.scan.state = .idle → s.scan.results.length < 4 → s.inSoftReset = false →
      (s.win w).state = .armed → (s.win w).pending = true →
      (∀ v, v < w → ¬((s.win v).state = .armed ∧ (s.win v).pending = true)) →
      ∃ u : State, exec .scanStart s = .next u.settle ∧
        u.scan =
          { s.scan with
            state := .flushing, window := w, trigger := (s.win w).trigger, disturbed := false, crc := 0xFFFFFFFF,
            wait := u.scan.wait, next := (s.win w).mbase.toNat, kept := [] } ∧
        (∀ l, l ∈ u.scan.wait ↔ (u.line l).state ≠ .free ∧ (u.line l).window = w) ∧
        (∀ l ∈ s.gather.age, (s.line l).window = w → (u.line l).state ≠ .gathering) ∧
        (s.gatherLaw →
          (∀ l, (s.line l).state = .gathering → (s.line l).window = w → u.line l = (s.line l).inFlush (s.win w) .scan) ∧
          (∀ l, ¬((s.line l).state = .gathering ∧ (s.line l).window = w) → u.line l = s.line l) ∧
          u.gather.age = s.gather.age.filter (fun l => (s.line l).window ≠ w) ∧
          u.gather.order = s.gather.order ++ s.gather.age.filter (fun l => (s.line l).window = w)) ∧
        u.win w = { s.win w with pending := false, dirty := false } ∧ (∀ v, v ≠ w → u.win v = s.win v) ∧
        u.colour = s.colour ∧ u.mirror = s.mirror ∧ u.link = s.link ∧ u.faults = s.faults ∧ u.host = s.host) ∧
    (s.scan.state = .flushing → s.scan.wait = [] →
      exec .scanReading s = .next (State.settle { s with scan := { s.scan with state := .reading } }))

/-! ### Actions -/

/-- ARM accepted: a non-adaptive window is ARMED at once; an adaptive one is ARMING, the engine is taken for its fill and the fill
entry's count rises by the window's pixels (R26, R27, R28, R89, R168). The checks pass exactly where every condition of R21 holds,
and no range meets that of another window that is not OFF (R5, R26, Table 1-2). ARM refused: BUSY, INVALID, OVERLAP and ENGINE_BUSY
in the order of R26, each leaving everything but the action status as it was. That a window's trigger keeps its
value while its pending flag is clear is the model's choice (log entry 28). -/
def Obligations.ArmJudged : Prop :=
  (∀ (s : State) (w : WindowId), s.takesActions →
    let cmd := exec (.arm (BitVec.ofNat 8 w.val)) s
    ((s.win w).state ≠ .off → cmd = .next (s.withRefusedAction 1 .busy).settle) ∧
    ((s.win w).state = .off → (s.win w).valid = false → cmd = .next (s.withRefusedAction 1 .invalid).settle) ∧
    ((s.win w).state = .off → (s.win w).valid = true → s.meetsOther w = true →
      cmd = .next (s.withRefusedAction 1 .overlap).settle) ∧
    ((s.win w).state = .off → (s.win w).valid = true → s.meetsOther w = false → (s.win w).adaptive = true →
      s.engine ≠ .idle → cmd = .next (s.withRefusedAction 1 .engineBusy).settle)) ∧
  (∀ (s : State) (w : WindowId), s.takesActions → (s.win w).state = .off → (s.win w).valid = true → s.meetsOther w = false →
    ((s.win w).adaptive = false →
      ∃ u : State, exec (.arm (BitVec.ofNat 8 w.val)) s = .next u.settle ∧
        u.win w = { s.win w with state := .armed, epoch := 0, dirty := false, pending := false, timer := .idle } ∧
        (∀ v, v ≠ w → u.win v = s.win v) ∧ u.port = (s.withAcceptedAction 1).port ∧ u.engine = s.engine ∧
        u.colour = s.colour ∧ u.mirror = s.mirror ∧ u.gather = s.gather ∧ u.link = s.link ∧ u.scan = s.scan ∧
        u.faults = s.faults) ∧
    ((s.win w).adaptive = true → s.engine = .idle →
      ∃ u : State, exec (.arm (BitVec.ofNat 8 w.val)) s = .next u.settle ∧
        u.win w = { s.win w with state := .arming, epoch := 0, dirty := false, pending := false, timer := .idle } ∧
        (∀ v, v ≠ w → u.win v = s.win v) ∧ u.port = (s.withAcceptedAction 1).port ∧
        u.engine = .filling
          { window := w, phase := .announce, next := (s.win w).mbase.toNat, failed := none, aborted := false } ∧
        u.colour = s.colour.addCount (s.win w).fillEntryId (s.win w).pixels.toNat ∧ u.mirror = s.mirror ∧
        u.gather = s.gather ∧ u.link = s.link ∧ u.scan = s.scan ∧ u.faults = s.faults)) ∧
  (∀ x : Window,
    (x.format = 3 → x.fillEntryId = Fin.ofNat 256 x.fillEntry.toNat) ∧
    (x.format = 4 → x.fillEntryId = Fin.ofNat 256 (16 * x.partition.toNat + x.fillEntry.toNat)) ∧
    (x.adaptive = true ↔ (x.format = 3 ∨ x.format = 4) ∧ x.tableMode = 1) ∧
    (x.valid = true ↔
      64 ∣ x.hbase.toNat ∧ x.hbase.toNat + 4 * x.pixels.toNat ≤ 4294967296 ∧ 8 ∣ x.mbase.toNat ∧
        16 ≤ x.pixels.toNat ∧ x.pixels.toNat ≤ 4194304 ∧ 16 ∣ x.pixels.toNat ∧
        (x.format = 0 ∧ x.mbase.toNat + 3 * x.pixels.toNat ≤ 4294967296 ∨
          (x.format = 1 ∨ x.format = 2) ∧ x.mbase.toNat + 2 * x.pixels.toNat ≤ 4294967296 ∨
          x.format = 3 ∧ x.mbase.toNat + x.pixels.toNat ≤ 4294967296 ∨
          x.format = 4 ∧ x.mbase.toNat + x.pixels.toNat / 2 ≤ 4294967296) ∧
        (x.round = 0 ∨ x.round = 1) ∧ (x.fill = 0 ∨ x.fill = 1) ∧ (x.tableMode = 0 ∨ x.tableMode = 1) ∧
        (x.policy = 0 ∨ x.policy = 1) ∧ x.partition.toNat ≤ 15 ∧
        (x.format = 4 → x.tableMode = 1 → x.fillEntry.toNat ≤ 15))) ∧
  ∀ (s : State) (w : WindowId), s.meetsOther w = true ↔
    ∃ v, v ≠ w ∧ (s.win v).state ≠ .off ∧
      (meet (s.win w).hbase.toNat ((s.win w).hbase.toNat + 4 * (s.win w).pixels.toNat)
          (s.win v).hbase.toNat ((s.win v).hbase.toNat + 4 * (s.win v).pixels.toNat) ∨
        meet (s.win w).mbase.toNat ((s.win w).mbase.toNat + (s.win w).fmt.windowBytes (s.win w).pixels.toNat)
          (s.win v).mbase.toNat ((s.win v).mbase.toNat + (s.win v).fmt.windowBytes (s.win v).pixels.toNat))

/-- DISARM by the window's state: OFF and ARMED are accepted, an adaptive window needs the engine idle, and DRAINING is refused; the
GATHERING lines of the window start flushing (R34, R35, R36, R57, R135). A scan of the window ends with an ABORTED record (R144). A
fill is aborted: it ends at once where none of its writes is outstanding, and a fill that has failed is left to its end (R33). That
a window's trigger keeps its value while its pending flag is clear is the model's choice (log entry 28). -/
def Obligations.DisarmByState : Prop :=
  ∀ (s : State) (w : WindowId), s.takesActions →
    let cmd := exec (.disarm (BitVec.ofNat 8 w.val)) s
    let cleared := { s.win w with pending := false, timer := .idle }
    let waits : Prop := ∃ o ∈ s.link.outstanding, o.by' = .fill ∨ o.by' = .release
    let scanned : Prop := (s.scan.state = .flushing ∨ s.scan.state = .reading) ∧ s.scan.window = w
    ((s.win w).state = .draining → cmd = .next (s.withRefusedAction 2 .busy).settle) ∧
    ((s.win w).state = .armed → (s.win w).adaptive = true → s.engine ≠ .idle →
      cmd = .next (s.withRefusedAction 2 .engineBusy).settle) ∧
    ((s.win w).state = .off → ¬scanned →
      cmd = .next (State.settle { s.withAcceptedAction 2 with windows := s.windows.set w cleared })) ∧
    ((s.win w).state = .armed → ((s.win w).adaptive = false ∨ s.engine = .idle) → s.gatherLaw →
      ∃ u : State, cmd = .next u.settle ∧
        (¬scanned → u.win w = { cleared with state := .draining } ∧ u.scan = s.scan) ∧
        (scanned → u.win w = { cleared with state := .draining, epoch := (s.win w).epoch + 1 } ∧
          u.scan =
            { s.scan with
              state := if s.link.outstanding.any Outstanding.isScan then .aborting else .idle
              wait := []
              kept := []
              results := s.scan.results ++
                [{ window := w, epoch := (s.win w).epoch + 1, crc := 0, status := .aborted, trigger := s.scan.trigger }] }) ∧
        (∀ v, v ≠ w → u.win v = s.win v) ∧
        (∀ l, (s.line l).state = .gathering → (s.line l).window = w → u.line l = (s.line l).inFlush (s.win w) .disarm) ∧
        (∀ l, ¬((s.line l).state = .gathering ∧ (s.line l).window = w) → u.line l = s.line l) ∧
        u.engine = (if (s.win w).adaptive then
          .releasing
            { window := w, reading := false, next := (s.win w).mbase.toNat, pointer := (s.win w).mbase.toNat, failed := none }
          else s.engine) ∧
        u.port = (s.withAcceptedAction 2).port ∧ u.colour = s.colour ∧ u.mirror = s.mirror ∧ u.link = s.link ∧
        u.faults = s.faults ∧ u.host = s.host) ∧
    (∀ f, (s.win w).state = .arming → ¬scanned → s.engine = .filling f → f.window = w →
      (f.failed = none → waits → cmd = .next (State.settle
        { s.withAcceptedAction 2 with
          windows := s.windows.set w cleared, engine := .filling { f with aborted := true } })) ∧
      (f.failed = none → ¬waits → cmd = .next (State.settle
        { s.withAcceptedAction 2 with
          windows := s.windows.set w { cleared with state := .off }
          engine := .idle
          colour := s.colour.subCount (s.win w).fillEntryId (s.win w).pixels.toNat })) ∧
      (f.failed ≠ none → cmd = .next (State.settle
        { s.withAcceptedAction 2 with windows := s.windows.set w cleared })))

/-- FLUSH_ALL starts every GATHERING line flushing and is RUNNING with the lines that are not FREE; it completes when its wait set
is empty (R60, R169). -/
def Obligations.FlushAllRuns : Prop :=
  (∀ (s : State) (v : Byte), s.takesActions → s.gatherLaw →
    ∃ u : State, exec (.flushAll v) s = .next u.settle ∧
      (∀ l, (s.line l).state = .gathering → u.line l = (s.line l).inFlush (s.win (s.line l).window) .flushAll) ∧
      (∀ l, (s.line l).state ≠ .gathering → u.line l = s.line l) ∧ u.gather.age = [] ∧
      u.gather.order = s.gather.order ++ s.gather.age ∧
      (∃ set, u.port.action = { running := some (.flushAll set), outcome := .accepted, reason := none, code := 4 } ∧
        ∀ l, l ∈ set ↔ (s.line l).state ≠ .free) ∧
      u.windows = s.windows ∧ u.colour = s.colour ∧ u.mirror = s.mirror ∧ u.link = s.link ∧ u.host = s.host ∧
      u.scan = s.scan ∧ u.faults = s.faults) ∧
  ∀ s : State, s.port.action.running = some (.flushAll []) →
    exec .flushAllComplete s = .next (State.settle
      { s with port := { s.port with action := { s.port.action with running := none } } })

/-- MIRROR_ATTACH in DETACHED starts a resync with RESYNC_BEGIN and is refused with BUSY elsewhere; MIRROR_DETACH changes nothing in
DETACHED and detaches elsewhere (R108, R115, R116). RECOUNT is refused with BUSY while an adaptive window is not OFF; otherwise
every count becomes 0, suspect is cleared, and colours, pins and held announcements stay (R99, R100). -/
def Obligations.MirrorAndCountActions : Prop :=
  ∀ (s : State) (v : Byte), s.takesActions →
    (s.mirror.link = .detached →
      exec (.mirrorAttach v) s = .next (State.settle
        { s.withAcceptedAction 5 with
          mirror :=
            { s.mirror with
              link := .resync, credits := 0, lost := false, pointer := 0, walk := .entries, stall := 0
              enqueued := s.mirror.enqueued + 1
              queue := s.mirror.queue ++
                [{ kind := .resyncBegin, seq := s.mirror.enqueued + 1, entry := 0, colour := { r := 0, g := 0, b := 0 } }] } })) ∧
    (s.mirror.link ≠ .detached → exec (.mirrorAttach v) s = .next (s.withRefusedAction 5 .busy).settle) ∧
    (s.mirror.link = .detached → exec (.mirrorDetach v) s = .next (s.withAcceptedAction 6).settle) ∧
    (s.mirror.link ≠ .detached →
      exec (.mirrorDetach v) s = .next (State.settle
        { s.withAcceptedAction 6 with
          mirror :=
            { s.mirror with
              link := .detached, queue := [], sending := false, reserve := false, credits := 0, sent := s.mirror.enqueued,
              pointer := 0, walk := .over, stall := 0 }
          colour := { s.colour with held := [] } })) ∧
    ((∃ w, (s.win w).adaptive = true ∧ (s.win w).state ≠ .off) →
      exec (.recount v) s = .next (s.withRefusedAction 7 .busy).settle) ∧
    ((∀ w, (s.win w).adaptive = true → (s.win w).state = .off) →
      ∃ u : State, exec (.recount v) s = .next u.settle ∧ (∀ e, u.entry e = { s.entry e with count := 0 }) ∧
        u.colour.suspect = false ∧ u.colour.held = s.colour.held ∧ u.port = (s.withAcceptedAction 7).port ∧
        u.mirror = s.mirror ∧ u.windows = s.windows ∧ u.gather = s.gather ∧ u.link = s.link ∧ u.host = s.host)

/-- FAULT_POP and RESULT_POP remove the head record and nothing else; FAULT_POP clears overflow when it empties the queue; on an
empty queue each is accepted and changes nothing (R146, R177). A fault record joins the tail while fewer than eight are held, and is
dropped with overflow set otherwise (R176). ATTN is asserted exactly while one of its four conditions holds with its enable set
(R180, Table 10-2). -/
def Obligations.RecordsAndAttention : Prop :=
  (∀ (s : State) (v : Byte), s.takesActions →
    (s.faults.records = [] → exec (.faultPop v) s = .next (s.withAcceptedAction 8).settle) ∧
    (∀ r rest, s.faults.records = r :: rest →
      exec (.faultPop v) s = .next (State.settle
        { s.withAcceptedAction 8 with
          faults := { records := rest, overflow := if rest = [] then false else s.faults.overflow } })) ∧
    (s.scan.results = [] → exec (.resultPop v) s = .next (s.withAcceptedAction 9).settle) ∧
    (∀ r rest, s.scan.results = r :: rest →
      exec (.resultPop v) s = .next (State.settle
        { s.withAcceptedAction 9 with scan := { s.scan with results := rest } }))) ∧
  (∀ (q : FaultQueue) (r : FaultRecord),
    (q.records.length < 8 → q.append r = { records := q.records ++ [r], overflow := q.overflow }) ∧
    (8 ≤ q.records.length → q.append r = { records := q.records, overflow := true })) ∧
  ∀ s : State, s.attn = true ↔
    s.port.settings.enables.getLsbD 0 = true ∧ s.faults.records ≠ [] ∨
    s.port.settings.enables.getLsbD 1 = true ∧ s.scan.results ≠ [] ∨
    s.port.settings.enables.getLsbD 2 = true ∧ s.mirror.lost = true ∨
    s.port.settings.enables.getLsbD 3 = true ∧ s.colour.suspect = true

/-- SOFT_RESET: steps 1 to 4 at acceptance; steps 6 and 7 when the outstanding list is empty, where the link takes requests again
and a request that waited on it is taken in the same event (R158, R170, R172); that several waiting requests are taken in the order
of their presentation is the model's choice (log entry 10). The fields of a FREE line other than its state and slots are the model's
(log entry 17), and so is that a window's trigger keeps its value while its pending flag is clear (log entry 28). -/
def Obligations.SoftResetSteps : Prop :=
  (∀ (s : State) (v : Byte), s.takesActions →
    ∃ u : State, exec (.softReset v) s = .next u.settle ∧
      u.host = { s.host with taking := false, queue := [], handling := none } ∧
      u.out.responses = s.out.responses ++ s.host.queue.map (fun r =>
        { cause := some .reset, data := if requestIsRead r then List.replicate (requestLength r) 0 else [] }) ∧
      (∀ l, u.line l = Line.blank) ∧ u.gather.age = [] ∧ u.gather.order = [] ∧ u.engine = .idle ∧ u.scan.state = .idle ∧
      u.scan.results = s.scan.results ∧
      (∀ w, u.win w = { s.win w with dirty := false, pending := false, timer := .idle }) ∧
      u.port.action = { running := some .softReset, outcome := .accepted, reason := none, code := 10 } ∧
      u.colour = s.colour ∧ u.mirror = s.mirror ∧ u.link = s.link ∧ u.faults = s.faults ∧ u.memory = s.memory) ∧
  ∀ s : State, s.port.action.running = some .softReset → s.link.outstanding = [] →
    ∃ u : State, exec .softResetComplete s = .next u.settle ∧ (∀ w, u.win w = { s.win w with state := .off }) ∧
      (∀ e, u.entry e = { s.entry e with count := 0 }) ∧ u.colour.suspect = false ∧ u.colour.held = [] ∧
      u.mirror.link = .detached ∧ u.mirror.lost = false ∧ u.mirror.enqueued = s.mirror.enqueued ∧
      u.mirror.sent = s.mirror.enqueued ∧ u.mirror.queue = [] ∧ u.link = { halted := false, outstanding := [] } ∧
      u.scan.results = [] ∧ u.faults = { records := [], overflow := false } ∧
      u.port = { s.port with action := { s.port.action with running := none } } ∧
      u.host = HostSide.takeWaiting { s.host with taking := true } ∧ u.gather = s.gather

/-- What refuses every action: BUSY while one is RUNNING, INVALID for an operand above 7 of ARM, DISARM and SCAN; and UNKNOWN for an
operand byte with no known code staged before it, where no code staged is code 00h (R167, R168). After an action row its write
transaction stands at 0022h (log entry 12). An operand byte written by REGISTER_WRITE commits the code that its transaction has
staged: with a known code it does what that code's action row does, but that its own transaction stands at 0022h and SDO carries one
more 00h; with the transaction that the row stands for, of four bytes and nothing captured, the two answers are the same (log entry
12). -/
def Obligations.ActionsRefused : Prop :=
  (actionSdo = [0, 0, 0, 0, 0] ∧ actionStream =
    { write := true, region := some .action, next := 0x0022, ended := false, staged := [], capture := none }) ∧
  ∀ (s : State) (v : Byte), s.port.txn ≠ .void →
    (s.port.action.running ≠ none →
      ∀ p ∈ actionRows v, exec p.2 s = .next (s.withRefusedAction p.1 .busy).settle) ∧
    (s.port.action.running = none → 7 < v.toNat →
      ∀ p ∈ (actionRows v).take 3, exec p.2 s = .next (s.withRefusedAction p.1 .invalid).settle) ∧
    ∀ t o, s.writesAt .action 0x0021 t o →
      let code : Byte := ((t.staged.find? (fun p => p.1 == 0x0020)).map Prod.snd).getD 0
      let after (u : State) : State :=
        { u with
          port := { u.port with txn := .data { t with next := 0x0022, staged := [] } }, out := { u.out with sdo := some (o ++ [0]) } }
      let refused (x : Reason) : State := after
        { s with port := { s.port with action := { s.port.action with outcome := .refused, reason := some x, code := code } } }
      let cmd := exec (.registerWrite 0x0021 v) s
      (s.port.action.running ≠ none → cmd = .next (refused .busy).settle) ∧
      (s.port.action.running = none → code = 0 ∨ 10 < code.toNat → cmd = .next (refused .unknown).settle) ∧
      (s.port.action.running = none → 0 < code.toNat → code.toNat ≤ 3 → 7 < v.toNat → cmd = .next (refused .invalid).settle) ∧
      ∀ p ∈ actionRows v, p.1 = code →
        (∃ u : State, exec p.2 s = .next u.settle ∧ cmd = .next (after u).settle) ∧
        (t.capture = none → o = [0, 0, 0, 0] → cmd = exec p.2 s)

/-! ### Management port -/

/-- A window-record field at its commit byte, in a stream of the WINDOWS region or as the first byte of its transaction: taken while
the window is OFF, refused with BUSY otherwise; the quiet interval is taken up to 4095 in any state and refused with INVALID above
it (R19, R163, R165). The value is formed from the commit byte, the bytes staged in the transaction and the field's current bytes,
and goes into the one field; the fields lie as Table 11-7 gives them (R163, Table 11-7). -/
def Obligations.WindowFieldCommits : Prop :=
  (∀ (s : State) (w : WindowId) (f : WinField) (v : Byte) (t : Stream) (o : List Byte),
    s.writesAt .windows (commitAddr w f) t o →
    let n := formField (s.win w) t.staged (fieldAddr w f) f v
    let port := { s.port with txn := .data { t with next := commitAddr w f + 1, staged := [] } }
    let out := { s.out with sdo := some (o ++ [0]) }
    let cmd := exec (.windowFieldCommit w f v) s
    ((f ≠ .quiet ∧ (s.win w).state = .off ∨ f = .quiet ∧ n ≤ 4095) →
      cmd = .next (State.settle { s with windows := s.windows.set w ((s.win w).putField f n), port := port, out := out })) ∧
    (∀ x, (f ≠ .quiet ∧ (s.win w).state ≠ .off ∧ x = .busy ∨ f = .quiet ∧ 4095 < n ∧ x = .invalid) →
      cmd = .next (State.settle
        { s with
          port :=
            { port with
              refusal := { reason := some x, addr := commitAddr w f, count := s.port.refusal.count + 1 } }
          out := out }))) ∧
  (∀ (x : Window) (st : Staged) (w : WindowId) (f : WinField) (v : Byte),
    formField x st (fieldAddr w f) f v < 256 ^ fieldBytes f ∧
    ∀ i, i < fieldBytes f →
      BitVec.ofNat 8 (formField x st (fieldAddr w f) f v / 256 ^ i) =
        if i + 1 = fieldBytes f then v
        else ((st.find? (fun p => p.1.toNat == fieldAddr w f + i)).map Prod.snd).getD
          (BitVec.ofNat 8 (x.getField f / 256 ^ i))) ∧
  (∀ (x : Window) (f : WinField) (n : Nat), n < 256 ^ fieldBytes f →
    (x.putField f n).getField f = n ∧ (∀ g, g ≠ f → (x.putField f n).getField g = x.getField g) ∧
      (x.putField f n).state = x.state ∧ (x.putField f n).epoch = x.epoch ∧ (x.putField f n).dirty = x.dirty ∧
      (x.putField f n).pending = x.pending ∧ (x.putField f n).trigger = x.trigger ∧ (x.putField f n).timer = x.timer) ∧
  (∀ (w : WindowId) (f : WinField), fieldAddr w f = 0x0100 + 32 * w.val + fieldOffset f ∧
    commitAddr w f = BitVec.ofNat 16 (0x0100 + 32 * w.val + fieldOffset f + fieldBytes f - 1)) ∧
  ([.hbase, .mbase, .pixels, .format, .round, .fill, .spare, .tableMode, .policy, .partition, .fillEntry, .quiet].map
      (fun f => (fieldOffset f, fieldBytes f)) =
    [(0x00, 4), (0x04, 4), (0x08, 3), (0x0B, 1), (0x0C, 1), (0x0D, 1), (0x0E, 1), (0x0F, 1), (0x10, 1), (0x11, 1), (0x12, 1),
      (0x13, 2)])

/-- An entry at its flags byte, in a stream of the ENTRIES region or as the first byte of its transaction: where a channel has been
staged, the colour request takes each staged channel and the entry's own for the rest, is refused with IN_USE for a LIVE entry and
taken otherwise; with none staged the colour stays and nothing is announced; and the pinned flag becomes bit 0 of the byte (R92,
R93, R94, R95). -/
def Obligations.EntryCommits : Prop :=
  ∀ (s : State) (e : EntryId) (v : Byte) (t : Stream) (o : List Byte),
    s.writesAt .entries (BitVec.ofNat 16 (0x0403 + 4 * e.val)) t o →
    let staged (i : Nat) : Option Byte := (t.staged.find? (fun p => p.1.toNat == 0x0400 + 4 * e.val + i)).map Prod.snd
    let c : Colour :=
      { r := (staged 0).getD (s.entry e).colour.r, g := (staged 1).getD (s.entry e).colour.g
        b := (staged 2).getD (s.entry e).colour.b }
    let asked : Prop := staged 0 ≠ none ∨ staged 1 ≠ none ∨ staged 2 ≠ none
    ∃ u : State, exec (.entryCommit e v) s = .next u.settle ∧ (∀ f, f ≠ e → u.entry f = s.entry f) ∧
      u.port.txn = .data { t with next := BitVec.ofNat 16 (0x0404 + 4 * e.val), staged := [] } ∧
      u.out = { s.out with sdo := some (o ++ [0]) } ∧ u.colour.suspect = s.colour.suspect ∧
      u.port.settings = s.port.settings ∧ u.port.action = s.port.action ∧ u.windows = s.windows ∧ u.gather = s.gather ∧
      u.engine = s.engine ∧ u.link = s.link ∧ u.host = s.host ∧ u.scan = s.scan ∧ u.faults = s.faults ∧
      (¬asked → u.entry e = { s.entry e with pinned := v.getLsbD 0 } ∧ u.port.refusal = s.port.refusal ∧
        u.mirror = s.mirror ∧ u.colour.held = s.colour.held) ∧
      (asked → (s.entry e).pinned = false → 0 < (s.entry e).count →
        u.entry e = { s.entry e with pinned := v.getLsbD 0 } ∧
          u.port.refusal =
            { reason := some .inUse, addr := BitVec.ofNat 16 (0x0403 + 4 * e.val), count := s.port.refusal.count + 1 } ∧
          u.mirror = s.mirror ∧ u.colour.held = s.colour.held) ∧
      (asked → (s.entry e).pinned = true ∨ (s.entry e).count = 0 →
        u.entry e = { s.entry e with colour := c, pinned := v.getLsbD 0 } ∧ u.port.refusal = s.port.refusal ∧
        (s.mirror.link = .detached → u.mirror = s.mirror ∧ u.colour.held = s.colour.held) ∧
        (s.mirror.link ≠ .detached → s.mirror.level < 16 → s.colour.held = [] →
          u.colour.held = [] ∧ u.mirror =
            { s.mirror with
              enqueued := s.mirror.enqueued + 1
              queue := s.mirror.queue ++ [{ kind := .entry, seq := s.mirror.enqueued + 1, entry := e, colour := c }] }) ∧
        (s.mirror.link ≠ .detached → (16 ≤ s.mirror.level ∨ s.colour.held ≠ []) →
          u.mirror = s.mirror ∧
            u.colour.held = if e ∈ s.colour.held then s.colour.held else s.colour.held ++ [e]))

/-- A GLOBAL setting is always taken; a byte that is not an item's commit byte is staged and changes nothing else; a byte of a
read-only item or a reserved byte is refused with READ_ONLY; each in a stream of its region or as the first byte of its transaction.
The first byte of a stream that starts at an unmapped address is refused with UNMAPPED; the first byte of an open stream beyond its
region notes BOUNDARY and drops the staged item; and from then on every byte of the transaction is dropped, whichever row carries it
(R161, R162, R163, R165, R166). The read-only and reserved bytes are these (R162, R183, Table 9-2). -/
def Obligations.DataBytesWritten : Prop :=
  (∀ (s : State) (v : Byte),
    (∀ (k : Setting) (a : Half) (t : Stream) (o : List Byte),
      (k, a) ∈ [(.prescale, 0x0010), (.gatherIdle, 0x0011), (.mirrorStall, 0x0012), (.memTimeout, 0x0013), (.enables, 0x0014)] →
      s.writesAt .global a t o →
      ∃ g, exec (.globalWrite k v) s = .next (State.settle
          { s with
            port := { s.port with settings := g, txn := .data { t with next := a + 1, staged := [] } }
            out := { s.out with sdo := some (o ++ [0]) } }) ∧
        g.prescale = (if k = .prescale then v else s.port.settings.prescale) ∧
        g.gatherIdle = (if k = .gatherIdle then v else s.port.settings.gatherIdle) ∧
        g.mirrorStall = (if k = .mirrorStall then v else s.port.settings.mirrorStall) ∧
        g.memTimeout = (if k = .memTimeout then v else s.port.settings.memTimeout) ∧
        g.enables = (if k = .enables then v.extractLsb' 0 4 else s.port.settings.enables)) ∧
    (∀ (a : Half) (r : Region) (t : Stream) (o : List Byte), r.contains a = true → s.writesAt r a t o →
      (writeItem r (a.toNat - r.base) = .stage →
        exec (.registerWrite a v) s = .next (State.settle
          { s with
            port := { s.port with txn := .data { t with next := a + 1, staged := t.staged ++ [(a, v)] } }
            out := { s.out with sdo := some (o ++ [0]) } })) ∧
      (writeItem r (a.toNat - r.base) = .readOnly →
        exec (.registerWrite a v) s = .next (State.settle
          { s with
            port :=
              { s.port with
                txn := .data { t with next := a + 1 }
                refusal := { reason := some .readOnly, addr := a, count := s.port.refusal.count + 1 } }
            out := { s.out with sdo := some (o ++ [0]) } }))) ∧
    (∀ a : Half, s.port.txn = .none → regionOf a = none →
      exec (.registerWrite a v) s = .next (State.settle
        { s with
          port :=
            { s.port with
              txn := .data { write := true, region := none, next := a + 1, ended := true, staged := [], capture := none }
              refusal := { reason := some .unmapped, addr := a, count := s.port.refusal.count + 1 } }
          out := { s.out with sdo := some [0, 0, 0, 0] } })) ∧
    (∀ (c : Instr) (t : Stream) (o : List Byte), carriesByte c t.next v → s.port.txn = .data t → t.write = true → s.out.sdo = some o →
      (∀ r, t.ended = false → t.region = some r → (t.next.toNat < r.base ∨ r.base + r.size ≤ t.next.toNat) →
        exec c s = .next (State.settle
          { s with
            port :=
              { s.port with
                txn := .data { t with next := t.next + 1, ended := true, staged := [] }
                refusal := { reason := some .boundary, addr := t.next, count := s.port.refusal.count + 1 } }
            out := { s.out with sdo := some (o ++ [0]) } })) ∧
      (t.ended = true → exec c s = .next (State.settle
        { s with
          port := { s.port with txn := .data { t with next := t.next + 1 } }
          out := { s.out with sdo := some (o ++ [0]) } })))) ∧
  ∀ (r : Region) (off : Nat), off < r.size →
    (writeItem r off = .readOnly ↔
      r ∈ [.id, .actionStatus, .status, .counts, .faultHead, .resultHead] ∨ r = .global ∧ 5 ≤ off ∨ r = .action ∧ 2 ≤ off ∨
        r = .windows ∧ 0x15 ≤ off % 32) ∧
    (writeItem r off = .stage ↔
      r = .action ∧ off = 0 ∨ r = .entries ∧ off % 4 ≠ 3 ∨
        r = .windows ∧ off % 32 ∈ [0x00, 0x01, 0x02, 0x04, 0x05, 0x06, 0x08, 0x09, 0x13])

/-- Reads, as the first data byte of a transaction, after four bytes of 00h, and in an open stream: a data byte that lies in no
captured item carries its current value; the first byte of a captured item captures the item whole, and a later byte returns the
captured value, whatever the item is by then, or the current value where the item was not captured; the first byte beyond the region
notes BOUNDARY, and from then on every byte is 00h; a read that starts at an unmapped address is 00h throughout (R97, R159, R161,
R162, R164). -/
def Obligations.ReadsCapture : Prop :=
  ∀ s : State,
    (∀ (r : Region) (a : Half) (t : Stream) (o : List Byte), s.readsAt r a t o →
      let now := s.regionByte r (a.toNat - r.base)
      let read (x : Option Capture) (v : Byte) : State :=
        { s with
          port := { s.port with txn := .data { t with next := a + 1, capture := x } }
          out := { s.out with sdo := some (o ++ [v]) } }
      ((∀ b n, isCaptured r b n → ¬(b ≤ a.toNat ∧ a.toNat < b + n)) → exec (.readCapture a) s = .next (read t.capture now)) ∧
      (∀ n, isCaptured r a.toNat n →
        exec (.readCapture a) s = .next (read
          (some { base := a, bytes := (List.range n).map (fun i => s.regionByte r (a.toNat - r.base + i)) }) now)) ∧
      ∀ b n i, isCaptured r b n → 1 ≤ i → i < n → a.toNat = b + i →
        (∀ k x, t.capture = some k → k.base.toNat = b → k.bytes[i]? = some x →
          exec (.readCapture a) s = .next (read t.capture x)) ∧
        ((∀ k, t.capture = some k → k.base.toNat ≠ b) → exec (.readCapture a) s = .next (read t.capture now))) ∧
    (∀ (t : Stream) (o : List Byte), s.port.txn = .data t → t.write = false → s.out.sdo = some o →
      (∀ r, t.region = some r → t.ended = false → (t.next.toNat < r.base ∨ r.base + r.size ≤ t.next.toNat) →
        exec (.boundary t.next) s = .next
          { s with
            port :=
              { s.port with
                txn := .data { t with next := t.next + 1, ended := true, staged := [] }
                refusal := { reason := some .boundary, addr := t.next, count := s.port.refusal.count + 1 } }
            out := { s.out with sdo := some (o ++ [0]) } }) ∧
      ((t.ended = true ∨ t.region = none) →
        exec (.readCapture t.next) s = .next
          { s with
            port := { s.port with txn := .data { t with next := t.next + 1 } }
            out := { s.out with sdo := some (o ++ [0]) } })) ∧
    (∀ a : Half, s.port.txn = .none → regionOf a = none →
      exec (.readCapture a) s = .next
        { s with
          port :=
            { s.port with
              txn := .data { write := false, region := none, next := a + 1, ended := false, staged := [], capture := none } }
          out := { s.out with sdo := some [0, 0, 0, 0, 0] } })

/-- What the bytes of each region read as: the items of Tables 11-5 to 11-9, lowest byte first, 00h in every reserved byte and in an
empty head record, at the addresses of Table 9-2, with the codes of Table 11-10, those of the host fault causes among them (R97,
R119, R162, R165, R168, R178, R182, R183, R184). -/
def Obligations.RegionBytes : Prop :=
  (∀ s : State,
    let read (r : Region) (first n : Nat) : List Byte := (List.range n).map (fun i => s.regionByte r (first + i))
    let byte (n : Nat) : Byte := BitVec.ofNat 8 n
    let flag (b : Bool) : Byte := if b then 1 else 0
    read .id 0 16 = [0x43, 0x56, 0x40, 0x00, 0x01, 0x08, 0x08, 0x00, 0x01, 0, 0, 0, 0, 0, 0, 0] ∧
    read .global 0 16 =
      [s.port.settings.prescale, s.port.settings.gatherIdle, s.port.settings.mirrorStall, s.port.settings.memTimeout,
        byte s.port.settings.enables.toNat, 0, 0, 0, 0, 0, 0, 0, 0, 0, 0, 0] ∧
    read .action 0 4 = [0, 0, 0, 0] ∧
    read .actionStatus 0 4 =
      [flag s.port.action.running.isSome, outcomeCode s.port.action.outcome, reasonCode s.port.action.reason,
        s.port.action.code] ∧
    read .status 0 16 =
      [linkCode s.mirror.link, byte s.mirror.credits, byte s.mirror.queue.length, flag s.mirror.lost, flag s.link.halted,
        byte s.link.outstanding.length, flag s.colour.suspect, byte s.faults.records.length, flag s.faults.overflow,
        byte s.scan.results.length, scanCode s.scan.state, reasonCode s.port.refusal.reason,
        byte s.port.refusal.addr.toNat, byte (s.port.refusal.addr.toNat / 256), s.port.refusal.count, 0] ∧
    (∀ w : WindowId,
      let x := s.win w
      read .windows (32 * w.val) 32 =
        [byte x.hbase.toNat, byte (x.hbase.toNat / 256), byte (x.hbase.toNat / 65536), byte (x.hbase.toNat / 16777216),
          byte x.mbase.toNat, byte (x.mbase.toNat / 256), byte (x.mbase.toNat / 65536), byte (x.mbase.toNat / 16777216),
          byte x.pixels.toNat, byte (x.pixels.toNat / 256), byte (x.pixels.toNat / 65536),
          x.format, x.round, x.fill, x.spare, x.tableMode, x.policy, x.partition, x.fillEntry,
          byte x.quiet.toNat, byte (x.quiet.toNat / 256), windowCode x.state, byte x.epoch.toNat,
          byte (x.epoch.toNat / 256), flag x.dirty, flag x.pending, 0, 0, 0, 0, 0, 0]) ∧
    (∀ e : EntryId,
      read .entries (4 * e.val) 4 =
        [(s.entry e).colour.r, (s.entry e).colour.g, (s.entry e).colour.b, flag (s.entry e).pinned] ∧
      read .counts (4 * e.val) 4 =
        [byte (s.entry e).count, byte ((s.entry e).count / 256), byte ((s.entry e).count / 65536),
          byte ((s.entry e).count / 16777216)]) ∧
    (s.faults.records = [] → read .faultHead 0 16 = List.replicate 16 0) ∧
    (∀ r rest, s.faults.records = r :: rest →
      let a := (r.addr.map BitVec.toNat).getD 0
      read .faultHead 0 16 =
        [faultCode r.cause,
          byte ((if r.window.isSome then 1 else 0) + (if r.addr.isSome then 2 else 0) + (if r.entry.isSome then 4 else 0) +
            (if r.flush.isSome then 8 else 0)),
          byte ((r.window.map Fin.val).getD 0), byte ((r.entry.map Fin.val).getD 0), byte a, byte (a / 256),
          byte (a / 65536), byte (a / 16777216), (r.flush.map flushCode).getD 0, 0, 0, 0, 0, 0, 0, 0]) ∧
    (s.scan.results = [] → read .resultHead 0 16 = List.replicate 16 0) ∧
    (∀ r rest, s.scan.results = r :: rest →
      read .resultHead 0 16 =
        [statusCode r.status, byte r.window.val, triggerCode r.trigger, 0, byte r.epoch.toNat, byte (r.epoch.toNat / 256), 0, 0,
          byte r.crc.toNat, byte (r.crc.toNat / 256), byte (r.crc.toNat / 65536), byte (r.crc.toNat / 16777216), 0, 0, 0, 0])) ∧
  ([.id, .global, .action, .actionStatus, .status, .windows, .entries, .counts, .faultHead, .resultHead].map
      (fun r => (Region.base r, Region.size r)) =
    [(0x0000, 16), (0x0010, 16), (0x0020, 4), (0x0024, 4), (0x0030, 16), (0x0100, 256), (0x0400, 1024), (0x0800, 1024),
      (0x0C00, 16), (0x0C10, 16)]) ∧
  (∀ (a : Half) (r : Region), regionOf a = some r ↔ r.base ≤ a.toNat ∧ a.toNat < r.base + r.size) ∧
  ([.align, .partialStrobes, .notReady, .guard, .noEntry, .exhausted, .memory, .reset].map hostFaultCode =
    [1, 2, 3, 4, 5, 6, 7, 8]) ∧
  (∀ r : HostResponse, r.code = none ↔ r.cause = none) ∧
  (∀ (r : HostResponse) c, r.cause = some c → r.code = some (hostFaultCode c)) ∧
  (reasonCode none = 0 ∧
    [.busy, .invalid, .overlap, .engineBusy, .notArmed, .inUse, .unknown, .unmapped, .readOnly, .boundary].map
      (fun x => reasonCode (some x)) = [1, 2, 3, 4, 5, 7, 8, 9, 0x0A, 0x0B]) ∧
  ([.lostWrite, .postedWriteError, .memoryTimeout, .strayResponse, .mirrorStall, .creditOverflow, .fillFailed,
      .releaseFailed].map faultCode = [1, 2, 3, 4, 5, 6, 7, 8]) ∧
  ([.complete, .evict, .idle, .overlap, .disarm, .scan, .exhaust, .flushAll].map flushCode = [1, 2, 3, 4, 5, 6, 7, 8]) ∧
  (outcomeCode .none = 0 ∧ outcomeCode .accepted = 1 ∧ outcomeCode .refused = 2 ∧ linkCode .detached = 0 ∧
    linkCode .resync = 1 ∧ linkCode .attached = 2 ∧ scanCode .idle = 0 ∧ scanCode .flushing = 1 ∧ scanCode .reading = 2 ∧
    scanCode .aborting = 3 ∧ windowCode .off = 0 ∧ windowCode .arming = 1 ∧ windowCode .armed = 2 ∧ windowCode .draining = 3 ∧
    statusCode .clean = 1 ∧ statusCode .disturbed = 2 ∧ statusCode .aborted = 3 ∧ statusCode .memError = 4 ∧
    triggerCode .command = 1 ∧ triggerCode .quiet = 2)

/-- A kind byte that is neither 3Ah nor 3Bh makes the transaction void and notes UNKNOWN with address 0000h; the bytes that follow
are ignored, with SDO at 00h. The end of a transaction drops its staged item and its capture and leaves SDO undriven, and changes
nothing else (R159, R163, R164). -/
def Obligations.TransactionsBeginAndEnd : Prop :=
  ∀ s : State,
    (∀ k : Byte, k ≠ 0x3A → k ≠ 0x3B →
      exec (.voidTransaction k) s = .next
        { s with
          port :=
            { s.port with
              txn := .void, refusal := { reason := some .unknown, addr := 0, count := s.port.refusal.count + 1 } }
          out := { s.out with sdo := some [0] } }) ∧
    (∀ o c, s.port.txn = .void → s.out.sdo = some o →
      (writesByte c = true ∨ ∃ v, c ∈ (actionRows v).map Prod.snd) →
      exec c s = .next (State.settle { s with out := { s.out with sdo := some (o ++ [0]) } })) ∧
    (∀ o a c, s.port.txn = .void → s.out.sdo = some o → c = .readCapture a ∨ c = .boundary a →
      exec c s = .next { s with out := { s.out with sdo := some (o ++ [0]) } }) ∧
    exec .transactionEnd s = .next { s with port := { s.port with txn := .none }, out := { s.out with sdo := none } }

/-! ### Formats and lookup -/

/-- The stored value of a pixel write to a P16 or P15 window, under TRUNCATE (R7) and under ROUND (R8); the host pixel word of a P16
or P15 stored value, under ZERO (R11) and under REPLICATE (R12). A P24 window stores the three channels as written and reads them
back (R9, R13); the colour of an indexed read is that of its entry at that moment (R14), and the spare byte that of the window
(R15). -/
def Obligations.NarrowingAndWidening : Prop :=
  (∀ (w : Window) (word : Word32),
    (w.format = 0 → w.encode word =
      some (.rgb24 (word.extractLsb' 16 8) (word.extractLsb' 8 8) (word.extractLsb' 0 8))) ∧
    (w.format = 3 ∨ w.format = 4 → w.encode word = none)) ∧
  (∀ (w : Window) (t : ColourTable) (r g b e : Byte) (i : BitVec 4),
    w.decode t (.rgb24 r g b) = pixelWord { r := r, g := g, b := b } w.spare ∧
    w.decode t (.index8 e) = pixelWord (t.entry (Fin.ofNat 256 e.toNat)).colour w.spare ∧
    w.decode t (.index4 i) = pixelWord (t.entry (Fin.ofNat 256 (16 * w.partition.toNat + i.toNat))).colour w.spare) ∧
  (∀ (word : Word32) (c : Colour) (k : Byte),
    pixelColour word = { r := word.extractLsb' 16 8, g := word.extractLsb' 8 8, b := word.extractLsb' 0 8 } ∧
    pixelColour (pixelWord c k) = c ∧ (pixelWord c k).extractLsb' 24 8 = k) ∧
  (∀ (w : Window) (word : Word32),
    let r := (word.extractLsb' 16 8).toNat
    let g := (word.extractLsb' 8 8).toNat
    let b := (word.extractLsb' 0 8).toNat
    (w.format = 1 → w.round = 0 →
      w.encode word = some (.rgb16 (BitVec.ofNat 5 (r / 8)) (BitVec.ofNat 6 (g / 4)) (BitVec.ofNat 5 (b / 8)))) ∧
    (w.format = 2 → w.round = 0 →
      w.encode word = some (.rgb15 (word.getLsbD 31) (BitVec.ofNat 5 (r / 8)) (BitVec.ofNat 5 (g / 8)) (BitVec.ofNat 5 (b / 8)))) ∧
    (w.format = 1 → w.round = 1 →
      w.encode word = some (.rgb16 (BitVec.ofNat 5 (min ((r + 4) / 8) 31)) (BitVec.ofNat 6 (min ((g + 2) / 4) 63))
        (BitVec.ofNat 5 (min ((b + 4) / 8) 31)))) ∧
    (w.format = 2 → w.round = 1 →
      w.encode word = some (.rgb15 (word.getLsbD 31) (BitVec.ofNat 5 (min ((r + 4) / 8) 31))
        (BitVec.ofNat 5 (min ((g + 4) / 8) 31)) (BitVec.ofNat 5 (min ((b + 4) / 8) 31))))) ∧
  ∀ (w : Window) (t : ColourTable) (key : Bool) (r b g5 : BitVec 5) (g : BitVec 6),
    let low (c : BitVec 5) : Byte := BitVec.ofNat 8 (c.toNat * 8)
    let full (c : BitVec 5) : Byte := BitVec.ofNat 8 (c.toNat * 8 + c.toNat / 4)
    (w.fill = 0 →
      w.decode t (.rgb16 r g b) = pixelWord { r := low r, g := BitVec.ofNat 8 (g.toNat * 4), b := low b } w.spare ∧
      w.decode t (.rgb15 key r g5 b) = pixelWord { r := low r, g := low g5, b := low b } (if key then 0xFF else 0)) ∧
    (w.fill = 1 →
      w.decode t (.rgb16 r g b) =
        pixelWord { r := full r, g := BitVec.ofNat 8 (g.toNat * 4 + g.toNat / 16), b := full b } w.spare ∧
      w.decode t (.rgb15 key r g5 b) = pixelWord { r := full r, g := full g5, b := full b } (if key then 0xFF else 0))

/-- R78: the distance of two colours, and the nearest candidate, the lowest-numbered on a tie. -/
def Obligations.NearestMatch : Prop :=
  (∀ c d : Colour,
    (distance c d : Int) = |(c.r.toNat : Int) - d.r.toNat| + |(c.g.toNat : Int) - d.g.toNat| + |(c.b.toNat : Int) - d.b.toNat|) ∧
  (∀ c d : Colour, distance c d ≤ 765 ∧ (distance c d = 0 ↔ c = d)) ∧
  ∀ (t : ColourTable) (c : Colour) (w : Window) (p : EntryId → Bool),
    (t.nearest c (w.range.filter p) = none ↔ w.range.filter p = []) ∧
    ∀ e, t.nearest c (w.range.filter p) = some e →
      e ∈ w.range.filter p ∧
      ∀ f ∈ w.range.filter p, distance c (t.entry e).colour < distance c (t.entry f).colour ∨
        distance c (t.entry e).colour = distance c (t.entry f).colour ∧ e ≤ f

/-! ### Laws that every step keeps -/

/-- Every step keeps the bounds: at most eight fault records, at most four requests in the ingress queue, no count above 67,108,863,
no duplicate held announcement (R86, R95, R148, R176); SDO driven exactly while a transaction is open (R159); and the memory list in
canonical form (log entry 5). -/
def Obligations.StepKeepsBounds : Prop :=
  ∀ s t : State, step s = .next t →
    (s.faultLaw → t.faultLaw) ∧ (s.ingressLaw → t.ingressLaw) ∧ (s.countLaw → t.countLaw) ∧ (s.heldLaw → t.heldLaw) ∧
      (s.sdoLaw → t.sdoLaw) ∧ (s.memoryLaw → t.memoryLaw)

/-- Every step keeps the law that at most four requests are outstanding, and none while HALTED (R122, R124). -/
def Obligations.StepKeepsMemoryLinkLaw : Prop :=
  ∀ s t : State, s.memoryLinkLaw → step s = .next t → t.memoryLinkLaw

/-- Every step keeps the law that the result queue's records and a scan's reserved place never number more than four
(R146). -/
def Obligations.StepKeepsResultLaw : Prop :=
  ∀ s t : State, s.resultLaw → step s = .next t → t.resultLaw

/-- Every step keeps the mirror queue's law: its level is at most 16, its credits at most 8, and in DETACHED it holds no message,
transmission, reserve, credit or held announcement (R101, R104, R106, R116). -/
def Obligations.StepKeepsMirrorLaw : Prop :=
  ∀ s t : State, s.mirrorLaw → step s = .next t → t.mirrorLaw

/-- Every step keeps the messages numbered without a gap from the sent counter to the enqueue counter (R103). -/
def Obligations.StepKeepsSequenceLaw : Prop :=
  ∀ s t : State, s.sequenceLaw → step s = .next t → t.sequenceLaw

/-- Every step keeps the age list the list of the GATHERING lines and the flush order that of the FLUSHING lines, each line once
(R44, R45). -/
def Obligations.StepKeepsGatherLaw : Prop :=
  ∀ s t : State, s.gatherLaw → step s = .next t → t.gatherLaw

/-- Every step keeps the law that no two lines hold the same group of the same window (R48). -/
def Obligations.StepKeepsGroupLaw : Prop :=
  ∀ s t : State, s.groupLaw → step s = .next t → t.groupLaw

/-- Every step keeps the ranges of windows that are not OFF pairwise disjoint, with the law of the engine that this rests on (R23,
R40). -/
def Obligations.StepKeepsRangeLaw : Prop :=
  ∀ s t : State, s.rangeLaw → step s = .next t → t.rangeLaw

/-- Every law holds after a device reset. -/
def Obligations.LawsHoldAtReset : Prop := State.reset.laws

/-! ### Frames -/

/-- Only responses, timeouts and device resets reach the memory behind the link, and a response performs the request at the head of
the list where it is OK to a WRITE, and otherwise leaves memory as it was (R121); only messages sent reach the mirror output (R104);
only a device reset reaches the timebase. A WRITE performed puts its data in the bytes whose mask is set and leaves every other byte
(R120). Only the tick marks a timer as expired: no command sets a mark, and only those that take the head from the outstanding list,
or a device reset, clear one (R166; log entry 21). -/
def Obligations.FrameMemoryAndOutputs : Prop :=
  (∀ (m : Memory) (r : MemRequest) (a : Nat),
    (∀ j, j < 8 * r.words → r.mask.getLsbD j = true → a = r.addr.toNat + j →
      (m.perform r).read a = some (blockByte r.data j)) ∧
    ((∀ j, j < 8 * r.words → a = r.addr.toNat + j → r.mask.getLsbD j = false) → (m.perform r).read a = m.read a)) ∧
  ∀ (c : Instr) (s t : State), exec c s = .next t →
    (c ≠ .deviceReset → t.ripe.idle = s.ripe.idle ∧ t.ripe.stall = s.ripe.stall ∧ t.ripe.quiet = s.ripe.quiet ∧
      (t.ripe.timeout = s.ripe.timeout ∨ t.ripe.timeout = false)) ∧
    (c ≠ .deviceReset → c ≠ .memoryTimeout → (∀ r, c ≠ .memoryResponse r) → t.ripe = s.ripe) ∧
    (c ≠ .deviceReset → c ≠ .memoryTimeout → (∀ r, c ≠ .memoryResponse r) →
      t.memory = s.memory ∧ t.freeCount = s.freeCount) ∧
    (∀ r, c = .memoryResponse r →
      (∀ o rest, s.link.outstanding = o :: rest → o.req.write = true → r ≠ .error → t.memory = s.memory.perform o.req) ∧
      (s.link.outstanding = [] ∨ (∃ o rest, s.link.outstanding = o :: rest ∧ o.req.write = false) ∨ r = .error →
        t.memory = s.memory)) ∧
    (c ≠ .messageSent → t.out.messages = s.out.messages) ∧
    (c ≠ .deviceReset → t.refLeft = s.refLeft)

/-- A command that carries no written management byte, and is no device reset, changes no field that software writes in a window
record, no pinned flag and no GLOBAL setting. The refusal record changes only at management bytes and a device reset; a read of a
management byte changes nothing but the transaction, the refusal record and SDO (R160, R165). -/
def Obligations.FrameProgrammedAndReads : Prop :=
  (∀ (c : Instr) (s t : State), exec c s = .next t → writesByte c = false → c ≠ .deviceReset →
    (∀ w f, (t.win w).getField f = (s.win w).getField f) ∧ (∀ e, (t.entry e).pinned = (s.entry e).pinned) ∧
    t.port.settings = s.port.settings) ∧
  (∀ (c : Instr) (s t : State), exec c s = .next t → writesByte c = false → c ≠ .deviceReset →
    (∀ a, c ≠ .readCapture a ∧ c ≠ .boundary a) → (∀ k, c ≠ .voidTransaction k) → t.port.refusal = s.port.refusal) ∧
  ∀ (a : Half) (s t : State), exec (.readCapture a) s = .next t ∨ exec (.boundary a) s = .next t →
    t = { s with
      port := { s.port with txn := t.port.txn, refusal := t.port.refusal }
      out := { s.out with sdo := t.out.sdo } }
end

