-- ==== Sys2Proof/Laws/State.lean ====
section
/-! SUPPORT. One lemma per update of State: every field it leaves alone. `simp` splits each into one rule per field. -/

-- One declaration at a time: the package as one text has many proofs, and a thread for each would not fit the memory limit.
set_option Elab.async false

namespace Sys2Proof.Machine

@[simp] theorem State.setWin_fields (s : State) (w : WindowId) (x : Window) :
  (s.setWin w x).host = s.host ∧ (s.setWin w x).engine = s.engine ∧ (s.setWin w x).gather = s.gather ∧
    (s.setWin w x).colour = s.colour ∧ (s.setWin w x).mirror = s.mirror ∧ (s.setWin w x).link = s.link ∧
    (s.setWin w x).scan = s.scan ∧ (s.setWin w x).faults = s.faults ∧ (s.setWin w x).port = s.port ∧
    (s.setWin w x).refLeft = s.refLeft ∧ (s.setWin w x).ripe = s.ripe ∧ (s.setWin w x).out = s.out ∧
    (s.setWin w x).memory = s.memory ∧ (s.setWin w x).freeCount = s.freeCount ∧ (s.setWin w x).pending = s.pending :=
  ⟨rfl, rfl, rfl, rfl, rfl, rfl, rfl, rfl, rfl, rfl, rfl, rfl, rfl, rfl, rfl⟩

@[simp] theorem State.setLine_fields (s : State) (l : LineId) (x : Line) :
  (s.setLine l x).host = s.host ∧ (s.setLine l x).windows = s.windows ∧ (s.setLine l x).engine = s.engine ∧
    (s.setLine l x).colour = s.colour ∧ (s.setLine l x).mirror = s.mirror ∧ (s.setLine l x).link = s.link ∧
    (s.setLine l x).scan = s.scan ∧ (s.setLine l x).faults = s.faults ∧ (s.setLine l x).port = s.port ∧
    (s.setLine l x).refLeft = s.refLeft ∧ (s.setLine l x).ripe = s.ripe ∧ (s.setLine l x).out = s.out ∧
    (s.setLine l x).memory = s.memory ∧ (s.setLine l x).freeCount = s.freeCount ∧ (s.setLine l x).pending = s.pending :=
  ⟨rfl, rfl, rfl, rfl, rfl, rfl, rfl, rfl, rfl, rfl, rfl, rfl, rfl, rfl, rfl⟩

@[simp] theorem State.appendFault_fields (s : State) (r : FaultRecord) :
  (s.appendFault r).host = s.host ∧ (s.appendFault r).windows = s.windows ∧ (s.appendFault r).engine = s.engine ∧
    (s.appendFault r).gather = s.gather ∧ (s.appendFault r).colour = s.colour ∧ (s.appendFault r).mirror = s.mirror ∧
    (s.appendFault r).link = s.link ∧ (s.appendFault r).scan = s.scan ∧ (s.appendFault r).port = s.port ∧
    (s.appendFault r).refLeft = s.refLeft ∧ (s.appendFault r).ripe = s.ripe ∧ (s.appendFault r).out = s.out ∧
    (s.appendFault r).memory = s.memory ∧ (s.appendFault r).freeCount = s.freeCount ∧ (s.appendFault r).pending = s.pending :=
  ⟨rfl, rfl, rfl, rfl, rfl, rfl, rfl, rfl, rfl, rfl, rfl, rfl, rfl, rfl, rfl⟩

@[simp] theorem State.announce_fields (s : State) (e : EntryId) :
  (s.announce e).host = s.host ∧ (s.announce e).windows = s.windows ∧ (s.announce e).engine = s.engine ∧
    (s.announce e).gather = s.gather ∧ (s.announce e).colour = s.colour ∧ (s.announce e).link = s.link ∧
    (s.announce e).scan = s.scan ∧ (s.announce e).faults = s.faults ∧ (s.announce e).port = s.port ∧
    (s.announce e).refLeft = s.refLeft ∧ (s.announce e).ripe = s.ripe ∧ (s.announce e).out = s.out ∧
    (s.announce e).memory = s.memory ∧ (s.announce e).freeCount = s.freeCount ∧ (s.announce e).pending = s.pending :=
  ⟨rfl, rfl, rfl, rfl, rfl, rfl, rfl, rfl, rfl, rfl, rfl, rfl, rfl, rfl, rfl⟩

@[simp] theorem State.mapHandling_fields (s : State) (f : Handling → Handling) :
  (s.mapHandling f).windows = s.windows ∧ (s.mapHandling f).engine = s.engine ∧ (s.mapHandling f).gather = s.gather ∧
    (s.mapHandling f).colour = s.colour ∧ (s.mapHandling f).mirror = s.mirror ∧ (s.mapHandling f).link = s.link ∧
    (s.mapHandling f).scan = s.scan ∧ (s.mapHandling f).faults = s.faults ∧ (s.mapHandling f).port = s.port ∧
    (s.mapHandling f).refLeft = s.refLeft ∧ (s.mapHandling f).ripe = s.ripe ∧ (s.mapHandling f).out = s.out ∧
    (s.mapHandling f).memory = s.memory ∧ (s.mapHandling f).freeCount = s.freeCount ∧ (s.mapHandling f).pending = s.pending :=
  ⟨rfl, rfl, rfl, rfl, rfl, rfl, rfl, rfl, rfl, rfl, rfl, rfl, rfl, rfl, rfl⟩

@[simp] theorem State.respond_fields (s : State) (r : HostResponse) :
  (s.respond r).windows = s.windows ∧ (s.respond r).engine = s.engine ∧ (s.respond r).gather = s.gather ∧
    (s.respond r).colour = s.colour ∧ (s.respond r).mirror = s.mirror ∧ (s.respond r).link = s.link ∧
    (s.respond r).scan = s.scan ∧ (s.respond r).faults = s.faults ∧ (s.respond r).port = s.port ∧
    (s.respond r).refLeft = s.refLeft ∧ (s.respond r).ripe = s.ripe ∧ (s.respond r).memory = s.memory ∧
    (s.respond r).freeCount = s.freeCount ∧ (s.respond r).pending = s.pending :=
  ⟨rfl, rfl, rfl, rfl, rfl, rfl, rfl, rfl, rfl, rfl, rfl, rfl, rfl, rfl⟩

@[simp] theorem State.setWindowState_fields (s : State) (w : WindowId) (st : WindowState) :
  (s.setWindowState w st).host = s.host ∧ (s.setWindowState w st).engine = s.engine ∧
    (s.setWindowState w st).gather = s.gather ∧ (s.setWindowState w st).colour = s.colour ∧
    (s.setWindowState w st).mirror = s.mirror ∧ (s.setWindowState w st).link = s.link ∧
    (s.setWindowState w st).scan = s.scan ∧ (s.setWindowState w st).faults = s.faults ∧
    (s.setWindowState w st).port = s.port ∧ (s.setWindowState w st).refLeft = s.refLeft ∧
    (s.setWindowState w st).ripe = s.ripe ∧ (s.setWindowState w st).out = s.out ∧
    (s.setWindowState w st).memory = s.memory ∧ (s.setWindowState w st).freeCount = s.freeCount ∧
    (s.setWindowState w st).pending = s.pending :=
  ⟨rfl, rfl, rfl, rfl, rfl, rfl, rfl, rfl, rfl, rfl, rfl, rfl, rfl, rfl, rfl⟩

@[simp] theorem State.endBeat_fields (s : State) (i : Nat) (r : BeatResult) :
  (s.endBeat i r).windows = s.windows ∧ (s.endBeat i r).engine = s.engine ∧ (s.endBeat i r).gather = s.gather ∧
    (s.endBeat i r).colour = s.colour ∧ (s.endBeat i r).mirror = s.mirror ∧ (s.endBeat i r).link = s.link ∧
    (s.endBeat i r).scan = s.scan ∧ (s.endBeat i r).faults = s.faults ∧ (s.endBeat i r).port = s.port ∧
    (s.endBeat i r).refLeft = s.refLeft ∧ (s.endBeat i r).ripe = s.ripe ∧ (s.endBeat i r).out = s.out ∧
    (s.endBeat i r).memory = s.memory ∧ (s.endBeat i r).freeCount = s.freeCount ∧ (s.endBeat i r).pending = s.pending :=
  ⟨rfl, rfl, rfl, rfl, rfl, rfl, rfl, rfl, rfl, rfl, rfl, rfl, rfl, rfl, rfl⟩

@[simp] theorem State.holdBeat_fields (s : State) (h : HeldBeat) :
  (s.holdBeat h).windows = s.windows ∧ (s.holdBeat h).engine = s.engine ∧ (s.holdBeat h).gather = s.gather ∧
    (s.holdBeat h).colour = s.colour ∧ (s.holdBeat h).mirror = s.mirror ∧ (s.holdBeat h).link = s.link ∧
    (s.holdBeat h).scan = s.scan ∧ (s.holdBeat h).faults = s.faults ∧ (s.holdBeat h).port = s.port ∧
    (s.holdBeat h).refLeft = s.refLeft ∧ (s.holdBeat h).ripe = s.ripe ∧ (s.holdBeat h).out = s.out ∧
    (s.holdBeat h).memory = s.memory ∧ (s.holdBeat h).freeCount = s.freeCount ∧ (s.holdBeat h).pending = s.pending :=
  ⟨rfl, rfl, rfl, rfl, rfl, rfl, rfl, rfl, rfl, rfl, rfl, rfl, rfl, rfl, rfl⟩

@[simp] theorem State.presentRequest_fields (s : State) (r : HostRequest) :
  (s.presentRequest r).windows = s.windows ∧ (s.presentRequest r).engine = s.engine ∧
    (s.presentRequest r).gather = s.gather ∧ (s.presentRequest r).colour = s.colour ∧
    (s.presentRequest r).mirror = s.mirror ∧ (s.presentRequest r).link = s.link ∧ (s.presentRequest r).scan = s.scan ∧
    (s.presentRequest r).faults = s.faults ∧ (s.presentRequest r).port = s.port ∧ (s.presentRequest r).refLeft = s.refLeft ∧
    (s.presentRequest r).ripe = s.ripe ∧ (s.presentRequest r).out = s.out ∧ (s.presentRequest r).memory = s.memory ∧
    (s.presentRequest r).freeCount = s.freeCount ∧ (s.presentRequest r).pending = s.pending :=
  ⟨rfl, rfl, rfl, rfl, rfl, rfl, rfl, rfl, rfl, rfl, rfl, rfl, rfl, rfl, rfl⟩

@[simp] theorem State.joinOutstanding_fields (s : State) (q : MemRequest) (b : Requester) :
  (s.joinOutstanding q b).host = s.host ∧ (s.joinOutstanding q b).windows = s.windows ∧
    (s.joinOutstanding q b).engine = s.engine ∧ (s.joinOutstanding q b).gather = s.gather ∧
    (s.joinOutstanding q b).colour = s.colour ∧ (s.joinOutstanding q b).mirror = s.mirror ∧
    (s.joinOutstanding q b).scan = s.scan ∧ (s.joinOutstanding q b).faults = s.faults ∧
    (s.joinOutstanding q b).port = s.port ∧ (s.joinOutstanding q b).refLeft = s.refLeft ∧
    (s.joinOutstanding q b).ripe = s.ripe ∧ (s.joinOutstanding q b).out = s.out ∧
    (s.joinOutstanding q b).memory = s.memory ∧ (s.joinOutstanding q b).freeCount = s.freeCount ∧
    (s.joinOutstanding q b).pending = s.pending :=
  ⟨rfl, rfl, rfl, rfl, rfl, rfl, rfl, rfl, rfl, rfl, rfl, rfl, rfl, rfl, rfl⟩

@[simp] theorem State.popHead_fields (s : State) (o : List Outstanding) :
  (s.popHead o).host = s.host ∧ (s.popHead o).windows = s.windows ∧ (s.popHead o).engine = s.engine ∧
    (s.popHead o).gather = s.gather ∧ (s.popHead o).colour = s.colour ∧ (s.popHead o).mirror = s.mirror ∧
    (s.popHead o).scan = s.scan ∧ (s.popHead o).faults = s.faults ∧ (s.popHead o).port = s.port ∧
    (s.popHead o).refLeft = s.refLeft ∧ (s.popHead o).out = s.out ∧ (s.popHead o).memory = s.memory ∧
    (s.popHead o).freeCount = s.freeCount ∧ (s.popHead o).pending = s.pending :=
  ⟨rfl, rfl, rfl, rfl, rfl, rfl, rfl, rfl, rfl, rfl, rfl, rfl, rfl, rfl⟩

@[simp] theorem State.ripen_fields (s : State) :
  (s.ripen).host = s.host ∧ (s.ripen).windows = s.windows ∧ (s.ripen).engine = s.engine ∧ (s.ripen).gather = s.gather ∧
    (s.ripen).colour = s.colour ∧ (s.ripen).mirror = s.mirror ∧ (s.ripen).link = s.link ∧ (s.ripen).scan = s.scan ∧
    (s.ripen).faults = s.faults ∧ (s.ripen).port = s.port ∧ (s.ripen).refLeft = s.refLeft ∧ (s.ripen).out = s.out ∧
    (s.ripen).memory = s.memory ∧ (s.ripen).freeCount = s.freeCount ∧ (s.ripen).pending = s.pending :=
  ⟨rfl, rfl, rfl, rfl, rfl, rfl, rfl, rfl, rfl, rfl, rfl, rfl, rfl, rfl, rfl⟩

@[simp] theorem State.detach_fields (s : State) :
  (s.detach).host = s.host ∧ (s.detach).windows = s.windows ∧ (s.detach).engine = s.engine ∧ (s.detach).gather = s.gather ∧
    (s.detach).link = s.link ∧ (s.detach).scan = s.scan ∧ (s.detach).faults = s.faults ∧ (s.detach).port = s.port ∧
    (s.detach).refLeft = s.refLeft ∧ (s.detach).ripe = s.ripe ∧ (s.detach).out = s.out ∧ (s.detach).memory = s.memory ∧
    (s.detach).freeCount = s.freeCount ∧ (s.detach).pending = s.pending :=
  ⟨rfl, rfl, rfl, rfl, rfl, rfl, rfl, rfl, rfl, rfl, rfl, rfl, rfl, rfl⟩

@[simp] theorem State.softResetBegin_fields (s : State) :
  (s.softResetBegin).colour = s.colour ∧ (s.softResetBegin).mirror = s.mirror ∧ (s.softResetBegin).link = s.link ∧
    (s.softResetBegin).faults = s.faults ∧ (s.softResetBegin).refLeft = s.refLeft ∧ (s.softResetBegin).ripe = s.ripe ∧
    (s.softResetBegin).memory = s.memory ∧ (s.softResetBegin).freeCount = s.freeCount ∧
    (s.softResetBegin).pending = s.pending :=
  ⟨rfl, rfl, rfl, rfl, rfl, rfl, rfl, rfl, rfl⟩

@[simp] theorem State.softResetEnd_fields (s : State) :
  (s.softResetEnd).engine = s.engine ∧ (s.softResetEnd).gather = s.gather ∧ (s.softResetEnd).refLeft = s.refLeft ∧
    (s.softResetEnd).ripe = s.ripe ∧ (s.softResetEnd).out = s.out ∧ (s.softResetEnd).memory = s.memory ∧
    (s.softResetEnd).freeCount = s.freeCount ∧ (s.softResetEnd).pending = s.pending :=
  ⟨rfl, rfl, rfl, rfl, rfl, rfl, rfl, rfl⟩

@[simp] theorem State.sendHead_fields (s : State) (m : Message) (rest : List Message) :
  (s.sendHead m rest).host = s.host ∧ (s.sendHead m rest).windows = s.windows ∧ (s.sendHead m rest).engine = s.engine ∧
    (s.sendHead m rest).gather = s.gather ∧ (s.sendHead m rest).colour = s.colour ∧ (s.sendHead m rest).link = s.link ∧
    (s.sendHead m rest).scan = s.scan ∧ (s.sendHead m rest).faults = s.faults ∧ (s.sendHead m rest).port = s.port ∧
    (s.sendHead m rest).refLeft = s.refLeft ∧ (s.sendHead m rest).ripe = s.ripe ∧ (s.sendHead m rest).memory = s.memory ∧
    (s.sendHead m rest).freeCount = s.freeCount ∧ (s.sendHead m rest).pending = s.pending :=
  ⟨rfl, rfl, rfl, rfl, rfl, rfl, rfl, rfl, rfl, rfl, rfl, rfl, rfl, rfl⟩

@[simp] theorem State.noteAction_fields (s : State) (o : ActionOutcome) (r : Option Reason) (c : Byte) :
  (s.noteAction o r c).host = s.host ∧ (s.noteAction o r c).windows = s.windows ∧ (s.noteAction o r c).engine = s.engine ∧
    (s.noteAction o r c).gather = s.gather ∧ (s.noteAction o r c).colour = s.colour ∧
    (s.noteAction o r c).mirror = s.mirror ∧ (s.noteAction o r c).link = s.link ∧ (s.noteAction o r c).scan = s.scan ∧
    (s.noteAction o r c).faults = s.faults ∧ (s.noteAction o r c).refLeft = s.refLeft ∧ (s.noteAction o r c).ripe = s.ripe ∧
    (s.noteAction o r c).out = s.out ∧ (s.noteAction o r c).memory = s.memory ∧
    (s.noteAction o r c).freeCount = s.freeCount ∧ (s.noteAction o r c).pending = s.pending :=
  ⟨rfl, rfl, rfl, rfl, rfl, rfl, rfl, rfl, rfl, rfl, rfl, rfl, rfl, rfl, rfl⟩

@[simp] theorem State.noteRefusal_fields (s : State) (r : Reason) (a : Half) :
  (s.noteRefusal r a).host = s.host ∧ (s.noteRefusal r a).windows = s.windows ∧ (s.noteRefusal r a).engine = s.engine ∧
    (s.noteRefusal r a).gather = s.gather ∧ (s.noteRefusal r a).colour = s.colour ∧ (s.noteRefusal r a).mirror = s.mirror ∧
    (s.noteRefusal r a).link = s.link ∧ (s.noteRefusal r a).scan = s.scan ∧ (s.noteRefusal r a).faults = s.faults ∧
    (s.noteRefusal r a).refLeft = s.refLeft ∧ (s.noteRefusal r a).ripe = s.ripe ∧ (s.noteRefusal r a).out = s.out ∧
    (s.noteRefusal r a).memory = s.memory ∧ (s.noteRefusal r a).freeCount = s.freeCount ∧
    (s.noteRefusal r a).pending = s.pending :=
  ⟨rfl, rfl, rfl, rfl, rfl, rfl, rfl, rfl, rfl, rfl, rfl, rfl, rfl, rfl, rfl⟩

@[simp] theorem State.setTxn_fields (s : State) (x : Transaction) :
  (s.setTxn x).host = s.host ∧ (s.setTxn x).windows = s.windows ∧ (s.setTxn x).engine = s.engine ∧
    (s.setTxn x).gather = s.gather ∧ (s.setTxn x).colour = s.colour ∧ (s.setTxn x).mirror = s.mirror ∧
    (s.setTxn x).link = s.link ∧ (s.setTxn x).scan = s.scan ∧ (s.setTxn x).faults = s.faults ∧
    (s.setTxn x).refLeft = s.refLeft ∧ (s.setTxn x).ripe = s.ripe ∧ (s.setTxn x).out = s.out ∧
    (s.setTxn x).memory = s.memory ∧ (s.setTxn x).freeCount = s.freeCount ∧ (s.setTxn x).pending = s.pending :=
  ⟨rfl, rfl, rfl, rfl, rfl, rfl, rfl, rfl, rfl, rfl, rfl, rfl, rfl, rfl, rfl⟩

@[simp] theorem State.setStaged_fields (s : State) (x : Stream) (st : Staged) :
  (s.setStaged x st).host = s.host ∧ (s.setStaged x st).windows = s.windows ∧ (s.setStaged x st).engine = s.engine ∧
    (s.setStaged x st).gather = s.gather ∧ (s.setStaged x st).colour = s.colour ∧ (s.setStaged x st).mirror = s.mirror ∧
    (s.setStaged x st).link = s.link ∧ (s.setStaged x st).scan = s.scan ∧ (s.setStaged x st).faults = s.faults ∧
    (s.setStaged x st).refLeft = s.refLeft ∧ (s.setStaged x st).ripe = s.ripe ∧ (s.setStaged x st).out = s.out ∧
    (s.setStaged x st).memory = s.memory ∧ (s.setStaged x st).freeCount = s.freeCount ∧
    (s.setStaged x st).pending = s.pending :=
  ⟨rfl, rfl, rfl, rfl, rfl, rfl, rfl, rfl, rfl, rfl, rfl, rfl, rfl, rfl, rfl⟩

@[simp] theorem State.setSdo_fields (s : State) (x : Option (List Byte)) :
  (s.setSdo x).host = s.host ∧ (s.setSdo x).windows = s.windows ∧ (s.setSdo x).engine = s.engine ∧
    (s.setSdo x).gather = s.gather ∧ (s.setSdo x).colour = s.colour ∧ (s.setSdo x).mirror = s.mirror ∧
    (s.setSdo x).link = s.link ∧ (s.setSdo x).scan = s.scan ∧ (s.setSdo x).faults = s.faults ∧
    (s.setSdo x).port = s.port ∧ (s.setSdo x).refLeft = s.refLeft ∧ (s.setSdo x).ripe = s.ripe ∧
    (s.setSdo x).memory = s.memory ∧ (s.setSdo x).freeCount = s.freeCount ∧ (s.setSdo x).pending = s.pending :=
  ⟨rfl, rfl, rfl, rfl, rfl, rfl, rfl, rfl, rfl, rfl, rfl, rfl, rfl, rfl, rfl⟩

@[simp] theorem State.shiftOut_fields (s : State) (v : Byte) :
  (s.shiftOut v).host = s.host ∧ (s.shiftOut v).windows = s.windows ∧ (s.shiftOut v).engine = s.engine ∧
    (s.shiftOut v).gather = s.gather ∧ (s.shiftOut v).colour = s.colour ∧ (s.shiftOut v).mirror = s.mirror ∧
    (s.shiftOut v).link = s.link ∧ (s.shiftOut v).scan = s.scan ∧ (s.shiftOut v).faults = s.faults ∧
    (s.shiftOut v).port = s.port ∧ (s.shiftOut v).refLeft = s.refLeft ∧ (s.shiftOut v).ripe = s.ripe ∧
    (s.shiftOut v).memory = s.memory ∧ (s.shiftOut v).freeCount = s.freeCount ∧ (s.shiftOut v).pending = s.pending :=
  ⟨rfl, rfl, rfl, rfl, rfl, rfl, rfl, rfl, rfl, rfl, rfl, rfl, rfl, rfl, rfl⟩

@[simp] theorem State.commitSetting_fields (s : State) (k : Setting) (v : Byte) :
  (s.commitSetting k v).host = s.host ∧ (s.commitSetting k v).windows = s.windows ∧
    (s.commitSetting k v).engine = s.engine ∧ (s.commitSetting k v).gather = s.gather ∧
    (s.commitSetting k v).colour = s.colour ∧ (s.commitSetting k v).mirror = s.mirror ∧
    (s.commitSetting k v).link = s.link ∧ (s.commitSetting k v).scan = s.scan ∧ (s.commitSetting k v).faults = s.faults ∧
    (s.commitSetting k v).refLeft = s.refLeft ∧ (s.commitSetting k v).ripe = s.ripe ∧ (s.commitSetting k v).out = s.out ∧
    (s.commitSetting k v).memory = s.memory ∧ (s.commitSetting k v).freeCount = s.freeCount ∧
    (s.commitSetting k v).pending = s.pending :=
  ⟨rfl, rfl, rfl, rfl, rfl, rfl, rfl, rfl, rfl, rfl, rfl, rfl, rfl, rfl, rfl⟩

@[simp] theorem State.requestFlags_fields (s : State) (e : EntryId) (v : Byte) :
  (s.requestFlags e v).host = s.host ∧ (s.requestFlags e v).windows = s.windows ∧ (s.requestFlags e v).engine = s.engine ∧
    (s.requestFlags e v).gather = s.gather ∧ (s.requestFlags e v).mirror = s.mirror ∧ (s.requestFlags e v).link = s.link ∧
    (s.requestFlags e v).scan = s.scan ∧ (s.requestFlags e v).faults = s.faults ∧ (s.requestFlags e v).port = s.port ∧
    (s.requestFlags e v).refLeft = s.refLeft ∧ (s.requestFlags e v).ripe = s.ripe ∧ (s.requestFlags e v).out = s.out ∧
    (s.requestFlags e v).memory = s.memory ∧ (s.requestFlags e v).freeCount = s.freeCount ∧
    (s.requestFlags e v).pending = s.pending :=
  ⟨rfl, rfl, rfl, rfl, rfl, rfl, rfl, rfl, rfl, rfl, rfl, rfl, rfl, rfl, rfl⟩

@[simp] theorem State.dequeued_fields (s : State) (q : List Instr) :
  (s.dequeued q).host = s.host ∧ (s.dequeued q).windows = s.windows ∧ (s.dequeued q).engine = s.engine ∧
    (s.dequeued q).gather = s.gather ∧ (s.dequeued q).colour = s.colour ∧ (s.dequeued q).mirror = s.mirror ∧
    (s.dequeued q).link = s.link ∧ (s.dequeued q).scan = s.scan ∧ (s.dequeued q).faults = s.faults ∧
    (s.dequeued q).port = s.port ∧ (s.dequeued q).refLeft = s.refLeft ∧ (s.dequeued q).ripe = s.ripe ∧
    (s.dequeued q).out = s.out ∧ (s.dequeued q).memory = s.memory ∧ (s.dequeued q).freeCount = s.freeCount :=
  ⟨rfl, rfl, rfl, rfl, rfl, rfl, rfl, rfl, rfl, rfl, rfl, rfl, rfl, rfl, rfl⟩

/-! ### Reading back what was written -/

@[simp] theorem State.win_setWin (s : State) (w v : WindowId) (x : Window) :
    (s.setWin w x).win v = if w = v then x else s.win v := by
  simp [State.win, State.setWin, Vector.getElem_set, Fin.ext_iff]

@[simp] theorem State.line_setLine (s : State) (l k : LineId) (x : Line) :
    (s.setLine l x).line k = if l = k then x else s.line k := by
  simp [State.line, State.setLine, Vector.getElem_set, Fin.ext_iff]

@[simp] theorem ColourTable.entry_setEntry (t : ColourTable) (e f : EntryId) (x : Entry) :
    (t.setEntry e x).entry f = if e = f then x else t.entry f := by
  simp [ColourTable.entry, ColourTable.setEntry, Vector.getElem_set, Fin.ext_iff]

@[simp] theorem ColourTable.setEntry_held (t : ColourTable) (e : EntryId) (x : Entry) : (t.setEntry e x).held = t.held := rfl

@[simp] theorem ColourTable.setEntry_suspect (t : ColourTable) (e : EntryId) (x : Entry) :
    (t.setEntry e x).suspect = t.suspect := rfl

/-- What a window reads depends on the windows alone. -/
theorem State.win_congr {s t : State} (h : t.windows = s.windows) (w : WindowId) : t.win w = s.win w := by
  simp [State.win, h]

/-- What a line reads depends on the lines alone. -/
theorem State.line_congr {s t : State} (h : t.gather.lines = s.gather.lines) (l : LineId) : t.line l = s.line l := by
  simp [State.line, h]

end Sys2Proof.Machine
end

