-- ==== Sys2Proof/Laws/Frames.lean ====
section
/-! SUPPORT. What each shared operation leaves alone: one lemma per operation, cited by the lemmas about events. -/

-- One declaration at a time: the package as one text has many proofs, and a thread for each would not fit the memory limit.
set_option Elab.async false

namespace Sys2Proof.Machine

/-- A field of a conditional state is that field's conditional. -/
theorem fieldsOfIte {p : Prop} [Decidable p] (a b : State) :
    (if p then a else b).host = (if p then a.host else b.host) ∧
    (if p then a else b).windows = (if p then a.windows else b.windows) ∧
    (if p then a else b).engine = (if p then a.engine else b.engine) ∧
    (if p then a else b).gather = (if p then a.gather else b.gather) ∧
    (if p then a else b).colour = (if p then a.colour else b.colour) ∧
    (if p then a else b).mirror = (if p then a.mirror else b.mirror) ∧
    (if p then a else b).link = (if p then a.link else b.link) ∧
    (if p then a else b).scan = (if p then a.scan else b.scan) ∧
    (if p then a else b).faults = (if p then a.faults else b.faults) ∧
    (if p then a else b).port = (if p then a.port else b.port) ∧
    (if p then a else b).refLeft = (if p then a.refLeft else b.refLeft) ∧
    (if p then a else b).ripe = (if p then a.ripe else b.ripe) ∧
    (if p then a else b).out = (if p then a.out else b.out) ∧
    (if p then a else b).memory = (if p then a.memory else b.memory) ∧
    (if p then a else b).freeCount = (if p then a.freeCount else b.freeCount) ∧
    (if p then a else b).pending = (if p then a.pending else b.pending) := by
  split <;> simp

@[simp] theorem State.lateWrite_fields (s : State) (o : Outstanding) :
  (s.lateWrite o).host = s.host ∧ (s.lateWrite o).windows = s.windows ∧ (s.lateWrite o).engine = s.engine ∧
    (s.lateWrite o).gather = s.gather ∧ (s.lateWrite o).colour = s.colour ∧ (s.lateWrite o).mirror = s.mirror ∧
    (s.lateWrite o).link = s.link ∧ (s.lateWrite o).scan = s.scan ∧ (s.lateWrite o).faults = s.faults ∧
    (s.lateWrite o).port = s.port ∧ (s.lateWrite o).refLeft = s.refLeft ∧ (s.lateWrite o).ripe = s.ripe ∧
    (s.lateWrite o).out = s.out ∧ (s.lateWrite o).pending = s.pending := by
  unfold State.lateWrite
  (repeat' split) <;> simp

@[simp] theorem State.resyncNext_fields (s : State) :
  (s.resyncNext).host = s.host ∧ (s.resyncNext).windows = s.windows ∧ (s.resyncNext).engine = s.engine ∧
    (s.resyncNext).gather = s.gather ∧ (s.resyncNext).colour = s.colour ∧ (s.resyncNext).link = s.link ∧
    (s.resyncNext).scan = s.scan ∧ (s.resyncNext).faults = s.faults ∧ (s.resyncNext).port = s.port ∧
    (s.resyncNext).refLeft = s.refLeft ∧ (s.resyncNext).ripe = s.ripe ∧ (s.resyncNext).out = s.out ∧
    (s.resyncNext).memory = s.memory ∧ (s.resyncNext).freeCount = s.freeCount ∧ (s.resyncNext).pending = s.pending := by
  unfold State.resyncNext
  (repeat' split) <;> simp

@[simp] theorem State.fillEnqueue_fields (s : State) (f : Fill) :
  (s.fillEnqueue f).host = s.host ∧ (s.fillEnqueue f).windows = s.windows ∧ (s.fillEnqueue f).gather = s.gather ∧
    (s.fillEnqueue f).colour = s.colour ∧ (s.fillEnqueue f).link = s.link ∧ (s.fillEnqueue f).scan = s.scan ∧
    (s.fillEnqueue f).faults = s.faults ∧ (s.fillEnqueue f).port = s.port ∧ (s.fillEnqueue f).refLeft = s.refLeft ∧
    (s.fillEnqueue f).ripe = s.ripe ∧ (s.fillEnqueue f).out = s.out ∧ (s.fillEnqueue f).memory = s.memory ∧
    (s.fillEnqueue f).freeCount = s.freeCount ∧ (s.fillEnqueue f).pending = s.pending := by
  unfold State.fillEnqueue
  (repeat' split) <;> simp

@[simp] theorem State.grantPlace_fields (s : State) :
  (s.grantPlace).host = s.host ∧ (s.grantPlace).windows = s.windows ∧ (s.grantPlace).gather = s.gather ∧
    (s.grantPlace).link = s.link ∧ (s.grantPlace).scan = s.scan ∧ (s.grantPlace).faults = s.faults ∧
    (s.grantPlace).port = s.port ∧ (s.grantPlace).refLeft = s.refLeft ∧ (s.grantPlace).ripe = s.ripe ∧
    (s.grantPlace).out = s.out ∧ (s.grantPlace).memory = s.memory ∧ (s.grantPlace).freeCount = s.freeCount ∧
    (s.grantPlace).pending = s.pending := by
  unfold State.grantPlace
  (repeat' split) <;> simp

@[simp] theorem State.dropReserve_fields (s : State) :
  (s.dropReserve).host = s.host ∧ (s.dropReserve).windows = s.windows ∧ (s.dropReserve).gather = s.gather ∧
    (s.dropReserve).link = s.link ∧ (s.dropReserve).scan = s.scan ∧ (s.dropReserve).faults = s.faults ∧
    (s.dropReserve).port = s.port ∧ (s.dropReserve).refLeft = s.refLeft ∧ (s.dropReserve).ripe = s.ripe ∧
    (s.dropReserve).out = s.out ∧ (s.dropReserve).memory = s.memory ∧ (s.dropReserve).freeCount = s.freeCount ∧
    (s.dropReserve).pending = s.pending := by
  unfold State.dropReserve
  (repeat' split) <;> simp

@[simp] theorem State.announceWrite_fields (s : State) (e : EntryId) :
  (s.announceWrite e).host = s.host ∧ (s.announceWrite e).windows = s.windows ∧ (s.announceWrite e).engine = s.engine ∧
    (s.announceWrite e).gather = s.gather ∧ (s.announceWrite e).link = s.link ∧ (s.announceWrite e).scan = s.scan ∧
    (s.announceWrite e).faults = s.faults ∧ (s.announceWrite e).port = s.port ∧ (s.announceWrite e).refLeft = s.refLeft ∧
    (s.announceWrite e).ripe = s.ripe ∧ (s.announceWrite e).out = s.out ∧ (s.announceWrite e).memory = s.memory ∧
    (s.announceWrite e).freeCount = s.freeCount ∧ (s.announceWrite e).pending = s.pending := by
  unfold State.announceWrite
  (repeat' split) <;> simp

@[simp] theorem State.startFlush_fields (s : State) (l : LineId) (c : FlushCause) :
  (s.startFlush l c).host = s.host ∧ (s.startFlush l c).windows = s.windows ∧ (s.startFlush l c).engine = s.engine ∧
    (s.startFlush l c).colour = s.colour ∧ (s.startFlush l c).mirror = s.mirror ∧ (s.startFlush l c).link = s.link ∧
    (s.startFlush l c).scan = s.scan ∧ (s.startFlush l c).faults = s.faults ∧ (s.startFlush l c).port = s.port ∧
    (s.startFlush l c).refLeft = s.refLeft ∧ (s.startFlush l c).ripe = s.ripe ∧ (s.startFlush l c).out = s.out ∧
    (s.startFlush l c).memory = s.memory ∧ (s.startFlush l c).freeCount = s.freeCount ∧
    (s.startFlush l c).pending = s.pending := by
  unfold State.startFlush
  simp [fieldsOfIte]

@[simp] theorem State.freeLine_fields (s : State) (l : LineId) :
  (s.freeLine l).windows = s.windows ∧ (s.freeLine l).engine = s.engine ∧ (s.freeLine l).colour = s.colour ∧
    (s.freeLine l).mirror = s.mirror ∧ (s.freeLine l).link = s.link ∧ (s.freeLine l).faults = s.faults ∧
    (s.freeLine l).refLeft = s.refLeft ∧ (s.freeLine l).ripe = s.ripe ∧ (s.freeLine l).out = s.out ∧
    (s.freeLine l).memory = s.memory ∧ (s.freeLine l).freeCount = s.freeCount ∧ (s.freeLine l).pending = s.pending := by
  unfold State.freeLine
  (repeat' split) <;> simp

@[simp] theorem State.flushFail_fields (s : State) (l : LineId) :
  (s.flushFail l).windows = s.windows ∧ (s.flushFail l).engine = s.engine ∧ (s.flushFail l).mirror = s.mirror ∧
    (s.flushFail l).link = s.link ∧ (s.flushFail l).refLeft = s.refLeft ∧ (s.flushFail l).ripe = s.ripe ∧
    (s.flushFail l).out = s.out ∧ (s.flushFail l).memory = s.memory ∧ (s.flushFail l).freeCount = s.freeCount ∧
    (s.flushFail l).pending = s.pending := by
  unfold State.flushFail
  simp [fieldsOfIte]

@[simp] theorem State.flushReadDone_fields (s : State) (l : LineId) (d : Block) :
  (s.flushReadDone l d).host = s.host ∧ (s.flushReadDone l d).windows = s.windows ∧
    (s.flushReadDone l d).engine = s.engine ∧ (s.flushReadDone l d).colour = s.colour ∧
    (s.flushReadDone l d).mirror = s.mirror ∧ (s.flushReadDone l d).link = s.link ∧ (s.flushReadDone l d).scan = s.scan ∧
    (s.flushReadDone l d).faults = s.faults ∧ (s.flushReadDone l d).port = s.port ∧
    (s.flushReadDone l d).refLeft = s.refLeft ∧ (s.flushReadDone l d).ripe = s.ripe ∧ (s.flushReadDone l d).out = s.out ∧
    (s.flushReadDone l d).memory = s.memory ∧ (s.flushReadDone l d).freeCount = s.freeCount ∧
    (s.flushReadDone l d).pending = s.pending := by
  unfold State.flushReadDone
  simp

@[simp] theorem State.flushWriteDone_fields (s : State) (l : LineId) :
  (s.flushWriteDone l).windows = s.windows ∧ (s.flushWriteDone l).engine = s.engine ∧
    (s.flushWriteDone l).mirror = s.mirror ∧ (s.flushWriteDone l).link = s.link ∧ (s.flushWriteDone l).faults = s.faults ∧
    (s.flushWriteDone l).refLeft = s.refLeft ∧ (s.flushWriteDone l).ripe = s.ripe ∧ (s.flushWriteDone l).out = s.out ∧
    (s.flushWriteDone l).memory = s.memory ∧ (s.flushWriteDone l).freeCount = s.freeCount ∧
    (s.flushWriteDone l).pending = s.pending := by
  unfold State.flushWriteDone
  simp [fieldsOfIte]

@[simp] theorem State.groupReadDone_fields (s : State) (id : Nat) (d : Block) :
  (s.groupReadDone id d).windows = s.windows ∧ (s.groupReadDone id d).engine = s.engine ∧
    (s.groupReadDone id d).gather = s.gather ∧ (s.groupReadDone id d).colour = s.colour ∧
    (s.groupReadDone id d).mirror = s.mirror ∧ (s.groupReadDone id d).link = s.link ∧ (s.groupReadDone id d).scan = s.scan ∧
    (s.groupReadDone id d).faults = s.faults ∧ (s.groupReadDone id d).port = s.port ∧
    (s.groupReadDone id d).refLeft = s.refLeft ∧ (s.groupReadDone id d).ripe = s.ripe ∧ (s.groupReadDone id d).out = s.out ∧
    (s.groupReadDone id d).memory = s.memory ∧ (s.groupReadDone id d).freeCount = s.freeCount ∧
    (s.groupReadDone id d).pending = s.pending := by
  unfold State.groupReadDone
  (repeat' split) <;> simp

@[simp] theorem State.groupReadFail_fields (s : State) (id : Nat) :
  (s.groupReadFail id).windows = s.windows ∧ (s.groupReadFail id).engine = s.engine ∧
    (s.groupReadFail id).gather = s.gather ∧ (s.groupReadFail id).colour = s.colour ∧
    (s.groupReadFail id).mirror = s.mirror ∧ (s.groupReadFail id).link = s.link ∧ (s.groupReadFail id).scan = s.scan ∧
    (s.groupReadFail id).faults = s.faults ∧ (s.groupReadFail id).port = s.port ∧ (s.groupReadFail id).refLeft = s.refLeft ∧
    (s.groupReadFail id).ripe = s.ripe ∧ (s.groupReadFail id).out = s.out ∧ (s.groupReadFail id).memory = s.memory ∧
    (s.groupReadFail id).freeCount = s.freeCount ∧ (s.groupReadFail id).pending = s.pending := by
  unfold State.groupReadFail
  simp

@[simp] theorem State.pieceReadDone_fields (s : State) (id : Nat) (r : MemRequest) (d : Block) :
  (s.pieceReadDone id r d).windows = s.windows ∧ (s.pieceReadDone id r d).engine = s.engine ∧
    (s.pieceReadDone id r d).gather = s.gather ∧ (s.pieceReadDone id r d).colour = s.colour ∧
    (s.pieceReadDone id r d).mirror = s.mirror ∧ (s.pieceReadDone id r d).link = s.link ∧
    (s.pieceReadDone id r d).scan = s.scan ∧ (s.pieceReadDone id r d).faults = s.faults ∧
    (s.pieceReadDone id r d).port = s.port ∧ (s.pieceReadDone id r d).refLeft = s.refLeft ∧
    (s.pieceReadDone id r d).ripe = s.ripe ∧ (s.pieceReadDone id r d).out = s.out ∧
    (s.pieceReadDone id r d).memory = s.memory ∧ (s.pieceReadDone id r d).freeCount = s.freeCount ∧
    (s.pieceReadDone id r d).pending = s.pending := by
  unfold State.pieceReadDone
  simp

@[simp] theorem State.pieceReadFail_fields (s : State) (id : Nat) :
  (s.pieceReadFail id).windows = s.windows ∧ (s.pieceReadFail id).engine = s.engine ∧
    (s.pieceReadFail id).gather = s.gather ∧ (s.pieceReadFail id).colour = s.colour ∧
    (s.pieceReadFail id).mirror = s.mirror ∧ (s.pieceReadFail id).link = s.link ∧ (s.pieceReadFail id).scan = s.scan ∧
    (s.pieceReadFail id).faults = s.faults ∧ (s.pieceReadFail id).port = s.port ∧ (s.pieceReadFail id).refLeft = s.refLeft ∧
    (s.pieceReadFail id).ripe = s.ripe ∧ (s.pieceReadFail id).out = s.out ∧ (s.pieceReadFail id).memory = s.memory ∧
    (s.pieceReadFail id).freeCount = s.freeCount ∧ (s.pieceReadFail id).pending = s.pending := by
  unfold State.pieceReadFail
  simp

@[simp] theorem State.engineIssued_fields (s : State) :
  (s.engineIssued).host = s.host ∧ (s.engineIssued).windows = s.windows ∧ (s.engineIssued).gather = s.gather ∧
    (s.engineIssued).colour = s.colour ∧ (s.engineIssued).mirror = s.mirror ∧ (s.engineIssued).link = s.link ∧
    (s.engineIssued).scan = s.scan ∧ (s.engineIssued).faults = s.faults ∧ (s.engineIssued).port = s.port ∧
    (s.engineIssued).refLeft = s.refLeft ∧ (s.engineIssued).ripe = s.ripe ∧ (s.engineIssued).out = s.out ∧
    (s.engineIssued).memory = s.memory ∧ (s.engineIssued).freeCount = s.freeCount ∧ (s.engineIssued).pending = s.pending := by
  unfold State.engineIssued
  (repeat' split) <;> simp

@[simp] theorem State.engineFail_fields (s : State) (a : Word32) :
  (s.engineFail a).host = s.host ∧ (s.engineFail a).windows = s.windows ∧ (s.engineFail a).gather = s.gather ∧
    (s.engineFail a).colour = s.colour ∧ (s.engineFail a).mirror = s.mirror ∧ (s.engineFail a).link = s.link ∧
    (s.engineFail a).scan = s.scan ∧ (s.engineFail a).faults = s.faults ∧ (s.engineFail a).port = s.port ∧
    (s.engineFail a).refLeft = s.refLeft ∧ (s.engineFail a).ripe = s.ripe ∧ (s.engineFail a).out = s.out ∧
    (s.engineFail a).memory = s.memory ∧ (s.engineFail a).freeCount = s.freeCount ∧ (s.engineFail a).pending = s.pending := by
  unfold State.engineFail
  (repeat' split) <;> simp

@[simp] theorem State.fillUndo_fields (s : State) (f : Fill) :
  (s.fillUndo f).host = s.host ∧ (s.fillUndo f).gather = s.gather ∧ (s.fillUndo f).mirror = s.mirror ∧
    (s.fillUndo f).link = s.link ∧ (s.fillUndo f).scan = s.scan ∧ (s.fillUndo f).faults = s.faults ∧
    (s.fillUndo f).port = s.port ∧ (s.fillUndo f).refLeft = s.refLeft ∧ (s.fillUndo f).ripe = s.ripe ∧
    (s.fillUndo f).out = s.out ∧ (s.fillUndo f).memory = s.memory ∧ (s.fillUndo f).freeCount = s.freeCount ∧
    (s.fillUndo f).pending = s.pending := by
  unfold State.fillUndo
  simp

@[simp] theorem State.engineFinish_fields (s : State) :
  (s.engineFinish).host = s.host ∧ (s.engineFinish).gather = s.gather ∧ (s.engineFinish).mirror = s.mirror ∧
    (s.engineFinish).link = s.link ∧ (s.engineFinish).scan = s.scan ∧ (s.engineFinish).port = s.port ∧
    (s.engineFinish).refLeft = s.refLeft ∧ (s.engineFinish).ripe = s.ripe ∧ (s.engineFinish).out = s.out ∧
    (s.engineFinish).memory = s.memory ∧ (s.engineFinish).freeCount = s.freeCount ∧ (s.engineFinish).pending = s.pending := by
  unfold State.engineFinish
  (repeat' split) <;> simp

@[simp] theorem State.releaseReadDone_fields (s : State) (q : MemRequest) (d : Block) :
  (s.releaseReadDone q d).host = s.host ∧ (s.releaseReadDone q d).windows = s.windows ∧
    (s.releaseReadDone q d).gather = s.gather ∧ (s.releaseReadDone q d).mirror = s.mirror ∧
    (s.releaseReadDone q d).link = s.link ∧ (s.releaseReadDone q d).scan = s.scan ∧
    (s.releaseReadDone q d).faults = s.faults ∧ (s.releaseReadDone q d).port = s.port ∧
    (s.releaseReadDone q d).refLeft = s.refLeft ∧ (s.releaseReadDone q d).ripe = s.ripe ∧
    (s.releaseReadDone q d).out = s.out ∧ (s.releaseReadDone q d).memory = s.memory ∧
    (s.releaseReadDone q d).freeCount = s.freeCount ∧ (s.releaseReadDone q d).pending = s.pending := by
  unfold State.releaseReadDone
  (repeat' split) <;> simp

@[simp] theorem State.scanEnd_fields (s : State) (st : ResultStatus) (c : Word32) :
  (s.scanEnd st c).host = s.host ∧ (s.scanEnd st c).engine = s.engine ∧ (s.scanEnd st c).gather = s.gather ∧
    (s.scanEnd st c).colour = s.colour ∧ (s.scanEnd st c).mirror = s.mirror ∧ (s.scanEnd st c).link = s.link ∧
    (s.scanEnd st c).faults = s.faults ∧ (s.scanEnd st c).port = s.port ∧ (s.scanEnd st c).refLeft = s.refLeft ∧
    (s.scanEnd st c).ripe = s.ripe ∧ (s.scanEnd st c).out = s.out ∧ (s.scanEnd st c).memory = s.memory ∧
    (s.scanEnd st c).freeCount = s.freeCount ∧ (s.scanEnd st c).pending = s.pending := by
  unfold State.scanEnd
  (repeat' split) <;> simp

@[simp] theorem State.scanFeed_fields (s : State) (q : MemRequest) (d : Block) :
  (s.scanFeed q d).host = s.host ∧ (s.scanFeed q d).engine = s.engine ∧ (s.scanFeed q d).gather = s.gather ∧
    (s.scanFeed q d).colour = s.colour ∧ (s.scanFeed q d).mirror = s.mirror ∧ (s.scanFeed q d).link = s.link ∧
    (s.scanFeed q d).faults = s.faults ∧ (s.scanFeed q d).port = s.port ∧ (s.scanFeed q d).refLeft = s.refLeft ∧
    (s.scanFeed q d).ripe = s.ripe ∧ (s.scanFeed q d).out = s.out ∧ (s.scanFeed q d).memory = s.memory ∧
    (s.scanFeed q d).freeCount = s.freeCount ∧ (s.scanFeed q d).pending = s.pending := by
  unfold State.scanFeed
  simp [fieldsOfIte]

@[simp] theorem State.scanDiscard_fields (s : State) :
  (s.scanDiscard).host = s.host ∧ (s.scanDiscard).windows = s.windows ∧ (s.scanDiscard).engine = s.engine ∧
    (s.scanDiscard).gather = s.gather ∧ (s.scanDiscard).colour = s.colour ∧ (s.scanDiscard).mirror = s.mirror ∧
    (s.scanDiscard).link = s.link ∧ (s.scanDiscard).faults = s.faults ∧ (s.scanDiscard).port = s.port ∧
    (s.scanDiscard).refLeft = s.refLeft ∧ (s.scanDiscard).ripe = s.ripe ∧ (s.scanDiscard).out = s.out ∧
    (s.scanDiscard).memory = s.memory ∧ (s.scanDiscard).freeCount = s.freeCount ∧ (s.scanDiscard).pending = s.pending := by
  unfold State.scanDiscard
  (repeat' split) <;> simp

@[simp] theorem State.scanReply_fields (s : State) (q : MemRequest) (d : Option Block) :
  (s.scanReply q d).host = s.host ∧ (s.scanReply q d).engine = s.engine ∧ (s.scanReply q d).gather = s.gather ∧
    (s.scanReply q d).colour = s.colour ∧ (s.scanReply q d).mirror = s.mirror ∧ (s.scanReply q d).link = s.link ∧
    (s.scanReply q d).faults = s.faults ∧ (s.scanReply q d).port = s.port ∧ (s.scanReply q d).refLeft = s.refLeft ∧
    (s.scanReply q d).ripe = s.ripe ∧ (s.scanReply q d).out = s.out ∧ (s.scanReply q d).memory = s.memory ∧
    (s.scanReply q d).freeCount = s.freeCount ∧ (s.scanReply q d).pending = s.pending := by
  unfold State.scanReply
  (repeat' split) <;> simp

@[simp] theorem State.scanAbort_fields (s : State) (w : WindowId) :
  (s.scanAbort w).host = s.host ∧ (s.scanAbort w).engine = s.engine ∧ (s.scanAbort w).gather = s.gather ∧
    (s.scanAbort w).colour = s.colour ∧ (s.scanAbort w).mirror = s.mirror ∧ (s.scanAbort w).link = s.link ∧
    (s.scanAbort w).faults = s.faults ∧ (s.scanAbort w).port = s.port ∧ (s.scanAbort w).refLeft = s.refLeft ∧
    (s.scanAbort w).ripe = s.ripe ∧ (s.scanAbort w).out = s.out ∧ (s.scanAbort w).memory = s.memory ∧
    (s.scanAbort w).freeCount = s.freeCount ∧ (s.scanAbort w).pending = s.pending := by
  unfold State.scanAbort
  (repeat' split) <;> simp

@[simp] theorem State.evict_fields (s : State) :
  (s.evict).host = s.host ∧ (s.evict).windows = s.windows ∧ (s.evict).engine = s.engine ∧ (s.evict).colour = s.colour ∧
    (s.evict).mirror = s.mirror ∧ (s.evict).link = s.link ∧ (s.evict).scan = s.scan ∧ (s.evict).faults = s.faults ∧
    (s.evict).port = s.port ∧ (s.evict).refLeft = s.refLeft ∧ (s.evict).ripe = s.ripe ∧ (s.evict).out = s.out ∧
    (s.evict).memory = s.memory ∧ (s.evict).freeCount = s.freeCount ∧ (s.evict).pending = s.pending := by
  unfold State.evict
  (repeat' split) <;> simp

@[simp] theorem State.allocateEntry_fields (s : State) (e : EntryId) (c : Colour) :
  (s.allocateEntry e c).host = s.host ∧ (s.allocateEntry e c).windows = s.windows ∧
    (s.allocateEntry e c).engine = s.engine ∧ (s.allocateEntry e c).gather = s.gather ∧
    (s.allocateEntry e c).link = s.link ∧ (s.allocateEntry e c).scan = s.scan ∧ (s.allocateEntry e c).faults = s.faults ∧
    (s.allocateEntry e c).port = s.port ∧ (s.allocateEntry e c).refLeft = s.refLeft ∧ (s.allocateEntry e c).ripe = s.ripe ∧
    (s.allocateEntry e c).out = s.out ∧ (s.allocateEntry e c).memory = s.memory ∧
    (s.allocateEntry e c).freeCount = s.freeCount ∧ (s.allocateEntry e c).pending = s.pending := by
  unfold State.allocateEntry
  simp [fieldsOfIte]

@[simp] theorem State.slotCounts_fields (s : State) (w : Window) (v : Stored) (o : Option Stored) :
  (s.slotCounts w v o).host = s.host ∧ (s.slotCounts w v o).windows = s.windows ∧ (s.slotCounts w v o).engine = s.engine ∧
    (s.slotCounts w v o).gather = s.gather ∧ (s.slotCounts w v o).mirror = s.mirror ∧ (s.slotCounts w v o).link = s.link ∧
    (s.slotCounts w v o).scan = s.scan ∧ (s.slotCounts w v o).faults = s.faults ∧ (s.slotCounts w v o).port = s.port ∧
    (s.slotCounts w v o).refLeft = s.refLeft ∧ (s.slotCounts w v o).ripe = s.ripe ∧ (s.slotCounts w v o).out = s.out ∧
    (s.slotCounts w v o).memory = s.memory ∧ (s.slotCounts w v o).freeCount = s.freeCount ∧
    (s.slotCounts w v o).pending = s.pending := by
  unfold State.slotCounts
  (repeat' split) <;> simp

@[simp] theorem State.reportWrite_fields (s : State) (w : WindowId) :
  (s.reportWrite w).host = s.host ∧ (s.reportWrite w).engine = s.engine ∧ (s.reportWrite w).gather = s.gather ∧
    (s.reportWrite w).colour = s.colour ∧ (s.reportWrite w).mirror = s.mirror ∧ (s.reportWrite w).link = s.link ∧
    (s.reportWrite w).faults = s.faults ∧ (s.reportWrite w).port = s.port ∧ (s.reportWrite w).refLeft = s.refLeft ∧
    (s.reportWrite w).ripe = s.ripe ∧ (s.reportWrite w).out = s.out ∧ (s.reportWrite w).memory = s.memory ∧
    (s.reportWrite w).freeCount = s.freeCount ∧ (s.reportWrite w).pending = s.pending := by
  unfold State.reportWrite
  simp [fieldsOfIte]

@[simp] theorem State.flushAfterWrite_fields (s : State) (l : LineId) :
  (s.flushAfterWrite l).host = s.host ∧ (s.flushAfterWrite l).windows = s.windows ∧
    (s.flushAfterWrite l).engine = s.engine ∧ (s.flushAfterWrite l).colour = s.colour ∧
    (s.flushAfterWrite l).mirror = s.mirror ∧ (s.flushAfterWrite l).link = s.link ∧ (s.flushAfterWrite l).scan = s.scan ∧
    (s.flushAfterWrite l).faults = s.faults ∧ (s.flushAfterWrite l).port = s.port ∧
    (s.flushAfterWrite l).refLeft = s.refLeft ∧ (s.flushAfterWrite l).ripe = s.ripe ∧ (s.flushAfterWrite l).out = s.out ∧
    (s.flushAfterWrite l).memory = s.memory ∧ (s.flushAfterWrite l).freeCount = s.freeCount ∧
    (s.flushAfterWrite l).pending = s.pending := by
  unfold State.flushAfterWrite
  simp [fieldsOfIte]

@[simp] theorem State.slotWrite_fields (s : State) (h : HeldBeat) (l : LineId) (v : Stored) :
  (s.slotWrite h l v).host = s.host ∧ (s.slotWrite h l v).engine = s.engine ∧ (s.slotWrite h l v).mirror = s.mirror ∧
    (s.slotWrite h l v).link = s.link ∧ (s.slotWrite h l v).faults = s.faults ∧ (s.slotWrite h l v).port = s.port ∧
    (s.slotWrite h l v).refLeft = s.refLeft ∧ (s.slotWrite h l v).ripe = s.ripe ∧ (s.slotWrite h l v).out = s.out ∧
    (s.slotWrite h l v).memory = s.memory ∧ (s.slotWrite h l v).freeCount = s.freeCount ∧
    (s.slotWrite h l v).pending = s.pending := by
  unfold State.slotWrite
  simp [fieldsOfIte]

@[simp] theorem State.placed_fields (s : State) (h : HeldBeat) (l : LineId) (v : Stored) :
  (s.placed h l v).engine = s.engine ∧ (s.placed h l v).mirror = s.mirror ∧ (s.placed h l v).link = s.link ∧
    (s.placed h l v).faults = s.faults ∧ (s.placed h l v).port = s.port ∧ (s.placed h l v).refLeft = s.refLeft ∧
    (s.placed h l v).ripe = s.ripe ∧ (s.placed h l v).out = s.out ∧ (s.placed h l v).memory = s.memory ∧
    (s.placed h l v).freeCount = s.freeCount ∧ (s.placed h l v).pending = s.pending := by
  unfold State.placed
  simp

theorem claimFold_fields (p : LineId → Bool) (c : FlushCause) (ls : List LineId) (s : State) :
  (ls.foldl (fun t l => if p l then t.startFlush l c else t) s).host = s.host ∧
    (ls.foldl (fun t l => if p l then t.startFlush l c else t) s).windows = s.windows ∧
    (ls.foldl (fun t l => if p l then t.startFlush l c else t) s).engine = s.engine ∧
    (ls.foldl (fun t l => if p l then t.startFlush l c else t) s).colour = s.colour ∧
    (ls.foldl (fun t l => if p l then t.startFlush l c else t) s).mirror = s.mirror ∧
    (ls.foldl (fun t l => if p l then t.startFlush l c else t) s).link = s.link ∧
    (ls.foldl (fun t l => if p l then t.startFlush l c else t) s).scan = s.scan ∧
    (ls.foldl (fun t l => if p l then t.startFlush l c else t) s).faults = s.faults ∧
    (ls.foldl (fun t l => if p l then t.startFlush l c else t) s).port = s.port ∧
    (ls.foldl (fun t l => if p l then t.startFlush l c else t) s).refLeft = s.refLeft ∧
    (ls.foldl (fun t l => if p l then t.startFlush l c else t) s).ripe = s.ripe ∧
    (ls.foldl (fun t l => if p l then t.startFlush l c else t) s).out = s.out ∧
    (ls.foldl (fun t l => if p l then t.startFlush l c else t) s).memory = s.memory ∧
    (ls.foldl (fun t l => if p l then t.startFlush l c else t) s).freeCount = s.freeCount ∧
    (ls.foldl (fun t l => if p l then t.startFlush l c else t) s).pending = s.pending := by
  induction ls generalizing s with
  | nil => simp
  | cons l ls ih =>
    rw [List.foldl_cons]
    split <;> simp [ih]

@[simp] theorem State.claim_fields (s : State) (p : Line → Bool) (c : FlushCause) :
  (s.claim p c).host = s.host ∧ (s.claim p c).windows = s.windows ∧ (s.claim p c).engine = s.engine ∧
    (s.claim p c).colour = s.colour ∧ (s.claim p c).mirror = s.mirror ∧ (s.claim p c).link = s.link ∧
    (s.claim p c).scan = s.scan ∧ (s.claim p c).faults = s.faults ∧ (s.claim p c).port = s.port ∧
    (s.claim p c).refLeft = s.refLeft ∧ (s.claim p c).ripe = s.ripe ∧ (s.claim p c).out = s.out ∧
    (s.claim p c).memory = s.memory ∧ (s.claim p c).freeCount = s.freeCount ∧ (s.claim p c).pending = s.pending := claimFold_fields _ c s.gather.age s

@[simp] theorem State.exhaustClaim_fields (s : State) (h : HeldBeat) :
  (s.exhaustClaim h).windows = s.windows ∧ (s.exhaustClaim h).engine = s.engine ∧ (s.exhaustClaim h).colour = s.colour ∧
    (s.exhaustClaim h).mirror = s.mirror ∧ (s.exhaustClaim h).link = s.link ∧ (s.exhaustClaim h).scan = s.scan ∧
    (s.exhaustClaim h).faults = s.faults ∧ (s.exhaustClaim h).port = s.port ∧ (s.exhaustClaim h).refLeft = s.refLeft ∧
    (s.exhaustClaim h).ripe = s.ripe ∧ (s.exhaustClaim h).out = s.out ∧ (s.exhaustClaim h).memory = s.memory ∧
    (s.exhaustClaim h).freeCount = s.freeCount ∧ (s.exhaustClaim h).pending = s.pending := by
  unfold State.exhaustClaim
  simp

@[simp] theorem State.store_fields (s : State) (h : HeldBeat) (l : LineId) :
  (s.store h l).engine = s.engine ∧ (s.store h l).link = s.link ∧ (s.store h l).faults = s.faults ∧
    (s.store h l).port = s.port ∧ (s.store h l).refLeft = s.refLeft ∧ (s.store h l).ripe = s.ripe ∧
    (s.store h l).out = s.out ∧ (s.store h l).memory = s.memory ∧ (s.store h l).freeCount = s.freeCount ∧
    (s.store h l).pending = s.pending := by
  unfold State.store
  (repeat' split) <;> simp

@[simp] theorem State.attemptCore_fields (s : State) (h : HeldBeat) :
  (s.attemptCore h).engine = s.engine ∧ (s.attemptCore h).link = s.link ∧ (s.attemptCore h).faults = s.faults ∧
    (s.attemptCore h).port = s.port ∧ (s.attemptCore h).refLeft = s.refLeft ∧ (s.attemptCore h).ripe = s.ripe ∧
    (s.attemptCore h).out = s.out ∧ (s.attemptCore h).memory = s.memory ∧ (s.attemptCore h).freeCount = s.freeCount ∧
    (s.attemptCore h).pending = s.pending := by
  unfold State.attemptCore
  (repeat' split) <;> simp

@[simp] theorem State.attempt_fields (s : State) (h : HeldBeat) :
  (s.attempt h).link = s.link ∧ (s.attempt h).faults = s.faults ∧ (s.attempt h).port = s.port ∧
    (s.attempt h).refLeft = s.refLeft ∧ (s.attempt h).ripe = s.ripe ∧ (s.attempt h).out = s.out ∧
    (s.attempt h).memory = s.memory ∧ (s.attempt h).freeCount = s.freeCount ∧ (s.attempt h).pending = s.pending := by
  unfold State.attempt
  (repeat' split) <;> simp

@[simp] theorem State.scanBegin_fields (s : State) (w : WindowId) :
  (s.scanBegin w).host = s.host ∧ (s.scanBegin w).engine = s.engine ∧ (s.scanBegin w).colour = s.colour ∧
    (s.scanBegin w).mirror = s.mirror ∧ (s.scanBegin w).link = s.link ∧ (s.scanBegin w).faults = s.faults ∧
    (s.scanBegin w).port = s.port ∧ (s.scanBegin w).refLeft = s.refLeft ∧ (s.scanBegin w).ripe = s.ripe ∧
    (s.scanBegin w).out = s.out ∧ (s.scanBegin w).memory = s.memory ∧ (s.scanBegin w).freeCount = s.freeCount ∧
    (s.scanBegin w).pending = s.pending := by
  unfold State.scanBegin
  simp

theorem lateFold_fields (os : List Outstanding) (s : State) :
  (os.foldl State.lateWrite s).host = s.host ∧ (os.foldl State.lateWrite s).windows = s.windows ∧
    (os.foldl State.lateWrite s).engine = s.engine ∧ (os.foldl State.lateWrite s).gather = s.gather ∧
    (os.foldl State.lateWrite s).colour = s.colour ∧ (os.foldl State.lateWrite s).mirror = s.mirror ∧
    (os.foldl State.lateWrite s).link = s.link ∧ (os.foldl State.lateWrite s).scan = s.scan ∧
    (os.foldl State.lateWrite s).faults = s.faults ∧ (os.foldl State.lateWrite s).port = s.port ∧
    (os.foldl State.lateWrite s).refLeft = s.refLeft ∧ (os.foldl State.lateWrite s).ripe = s.ripe ∧
    (os.foldl State.lateWrite s).out = s.out ∧ (os.foldl State.lateWrite s).pending = s.pending := by
  induction os generalizing s with
  | nil => simp
  | cons o os ih =>
    rw [List.foldl_cons]
    simp [ih]

@[simp] theorem State.lateWrites_fields (s : State) :
  (s.lateWrites).host = s.host ∧ (s.lateWrites).windows = s.windows ∧ (s.lateWrites).engine = s.engine ∧
    (s.lateWrites).gather = s.gather ∧ (s.lateWrites).colour = s.colour ∧ (s.lateWrites).mirror = s.mirror ∧
    (s.lateWrites).link = s.link ∧ (s.lateWrites).scan = s.scan ∧ (s.lateWrites).faults = s.faults ∧
    (s.lateWrites).port = s.port ∧ (s.lateWrites).refLeft = s.refLeft ∧ (s.lateWrites).ripe = s.ripe ∧
    (s.lateWrites).out = s.out ∧ (s.lateWrites).pending = s.pending := lateFold_fields s.link.outstanding s

end Sys2Proof.Machine
end

