-- ==== Sys2Proof/Laws/Ops.lean ====
section
/-! SUPPORT. What the shared operations do to the queues, counters and counts they own. -/

-- One declaration at a time: the package as one text has many proofs, and a thread for each would not fit the memory limit.
set_option Elab.async false

namespace Sys2Proof.Machine

/-! ### Fault queue (R176, R177) -/

theorem FaultQueue.append_length (q : FaultQueue) (r : FaultRecord) (h : q.records.length ≤ 8) :
    (q.append r).records.length ≤ 8 := by
  unfold FaultQueue.append Config.faultPlaces
  split
  · simp only [List.length_append, List.length_singleton]; omega
  · exact h

theorem FaultQueue.pop_records (q : FaultQueue) : q.pop.records = q.records.tail := by
  unfold FaultQueue.pop
  split <;> simp_all

@[simp] theorem State.appendFault_faults (s : State) (r : FaultRecord) : (s.appendFault r).faults = s.faults.append r := rfl

/-! ### Ingress queue (R148) -/

theorem HostSide.takeWaiting_length (x : HostSide) (h : x.queue.length ≤ 4) : x.takeWaiting.queue.length ≤ 4 := by
  unfold HostSide.takeWaiting Config.ingressPlaces
  split
  · simp only [List.length_append, List.length_take]; omega
  · exact h

@[simp] theorem HostSide.takeWaiting_handling (x : HostSide) : x.takeWaiting.handling = x.handling := by
  unfold HostSide.takeWaiting
  split <;> rfl

@[simp] theorem HostSide.takeWaiting_taking (x : HostSide) : x.takeWaiting.taking = x.taking := by
  unfold HostSide.takeWaiting
  split <;> rfl

/-! ### Mirror queue (R103, R104) -/

@[simp] theorem Mirror.enqueue_fields (m : Mirror) (k : MessageKind) (e : EntryId) (c : Colour) :
    (m.enqueue k e c).queue = m.queue ++ [{ kind := k, seq := m.enqueued + 1, entry := e, colour := c }] ∧
    (m.enqueue k e c).enqueued = m.enqueued + 1 ∧ (m.enqueue k e c).sent = m.sent ∧ (m.enqueue k e c).link = m.link ∧
    (m.enqueue k e c).sending = m.sending ∧ (m.enqueue k e c).reserve = m.reserve ∧ (m.enqueue k e c).credits = m.credits ∧
    (m.enqueue k e c).pointer = m.pointer ∧ (m.enqueue k e c).walk = m.walk ∧ (m.enqueue k e c).stall = m.stall ∧
    (m.enqueue k e c).lost = m.lost := by
  simp [Mirror.enqueue]

@[simp] theorem State.announce_mirror (s : State) (e : EntryId) :
    (s.announce e).mirror = s.mirror.enqueue .entry e (s.entry e).colour := rfl

/-- A number is reached by itself (R111). -/
@[simp] theorem reached_self (m : Half) : reached m m = true := by simp [reached]

/-! ### Counts (R86) -/

/-- An entry depends on the entries alone. -/
@[simp] theorem ColourTable.entry_entries (t : ColourTable) (b : Bool) (l : List EntryId) (e : EntryId) :
    ColourTable.entry { entries := t.entries, suspect := b, held := l } e = t.entry e := rfl

theorem ColourTable.addCount_count (t : ColourTable) (e f : EntryId) (n : Nat) :
    ((t.addCount e n).entry f).count =
      if e = f then min ((t.entry e).count + n) Config.countMax else (t.entry f).count := by
  unfold ColourTable.addCount
  dsimp only
  split
  · rw [ColourTable.entry_setEntry]
    split
    · simp only []; omega
    · rfl
  · rw [ColourTable.entry_entries, ColourTable.entry_setEntry]
    split
    · simp only []; omega
    · rfl

theorem ColourTable.subCount_count (t : ColourTable) (e f : EntryId) (n : Nat) :
    ((t.subCount e n).entry f).count = if e = f then (t.entry e).count - n else (t.entry f).count := by
  unfold ColourTable.subCount
  dsimp only
  split
  · rw [ColourTable.entry_setEntry]
    split <;> simp
  · rw [ColourTable.entry_entries, ColourTable.entry_setEntry]
    split
    · simp only []; omega
    · rfl

/-- A count event changes no colour and no pin (R86). -/
theorem ColourTable.addCount_kept (t : ColourTable) (e f : EntryId) (n : Nat) :
    ((t.addCount e n).entry f).colour = (t.entry f).colour ∧ ((t.addCount e n).entry f).pinned = (t.entry f).pinned ∧
      (t.addCount e n).held = t.held := by
  unfold ColourTable.addCount
  dsimp only
  split <;> simp only [ColourTable.entry_entries, ColourTable.entry_setEntry, ColourTable.setEntry_held, ColourTable.setEntry_suspect] <;>
    split <;> simp_all

/-- A count event changes no colour and no pin (R86). -/
theorem ColourTable.subCount_kept (t : ColourTable) (e f : EntryId) (n : Nat) :
    ((t.subCount e n).entry f).colour = (t.entry f).colour ∧ ((t.subCount e n).entry f).pinned = (t.entry f).pinned ∧
      (t.subCount e n).held = t.held := by
  unfold ColourTable.subCount
  dsimp only
  split <;> simp only [ColourTable.entry_entries, ColourTable.entry_setEntry, ColourTable.setEntry_held, ColourTable.setEntry_suspect] <;>
    split <;> simp_all

theorem ColourTable.subCounts_kept (t : ColourTable) (es : List EntryId) (f : EntryId) :
    ((t.subCounts es).entry f).colour = (t.entry f).colour ∧ ((t.subCounts es).entry f).pinned = (t.entry f).pinned ∧
      ((t.subCounts es).entry f).count ≤ (t.entry f).count ∧ (t.subCounts es).held = t.held := by
  unfold ColourTable.subCounts
  induction es generalizing t with
  | nil => simp
  | cons e es ih =>
    rw [List.foldl_cons]
    obtain ⟨h1, h2, h3, h4⟩ := ih (t.subCount e 1)
    obtain ⟨k1, k2, k3⟩ := t.subCount_kept e f 1
    have k4 := t.subCount_count e f 1
    refine ⟨h1.trans k1, h2.trans k2, h3.trans ?_, h4.trans k3⟩
    rw [k4]
    split
    · next he => subst he; omega
    · exact le_refl _

/-! ### Scan unit (R143, R146) -/

/-- The end of a scan turns the reserved place into one record. -/
theorem State.scanEnd_results (s : State) (st : ResultStatus) (c : Word32) :
    (s.scanEnd st c).scan.results.length + (if (s.scanEnd st c).scan.reserved then 1 else 0) =
      s.scan.results.length + (if s.scan.reserved then 1 else 0) := by
  unfold State.scanEnd
  split
  · next h =>
    simp only [ScanUnit.reserved, State.setWin_fields, List.length_append, List.length_singleton]
    split <;> simp_all [ScanUnit.reserved]
  · rfl

end Sys2Proof.Machine
end

