-- ==== Sys2Proof/Laws/Events.lean ====
section
/-! SUPPORT. What the shared operations of the gather buffer, of placement and of the blocks do, said once: a flush that starts, a
claim, a placement attempt, and the bytes of a block. -/

-- One declaration at a time: the package as one text has many proofs, and a thread for each would not fit the memory limit.
set_option Elab.async false

namespace Sys2Proof.Machine

/-! ### Flushes and claims (R45, R54, R61) -/

theorem Line.complete_iff (ln : Line) (w : Window) : ln.complete w = true ↔ ln.isFull w := by
  simp only [Line.complete, Line.isFull, allSlots, List.all_eq_true, List.mem_finRange, forall_const, Bool.or_eq_true,
    decide_eq_true_eq]
  exact forall_congr' fun i => ⟨fun h hi => by rcases h with h | h; omega; exact h,
    fun h => by by_cases hi : w.fmt.pixels ≤ i.val; exact Or.inl hi; exact Or.inr (h (by omega))⟩

/-- The kind of a flush and its first phase are those of Table 3-4. -/
theorem Line.inFlush_eq (ln : Line) (w : Window) (c : FlushCause) :
    ln.inFlush w c =
      { ln with
        state := .flushing, phase := some (flushKind w ln).firstPhase, kind := some (flushKind w ln), cause := some c,
        issued := false } := by
  have h := ln.complete_iff w
  unfold Line.inFlush flushKind
  by_cases ha : w.adaptive = true
  · simp [ha, FlushKind.firstPhase]
  · by_cases hf : ln.isFull w
    · rw [if_pos ⟨by simpa using ha, hf⟩, if_neg ha, if_pos hf, if_neg ha, if_pos (h.2 hf)]
      rfl
    · rw [if_neg (fun k => hf k.2), if_neg ha, if_neg hf, if_neg ha, if_neg (fun k => hf (h.1 k))]
      rfl

/-- A GATHERING line starts flushing: the line, and the two lists. -/
theorem State.startFlush_gathering (s : State) (l : LineId) (c : FlushCause) (h : (s.line l).state = .gathering) :
    s.startFlush l c =
      { s with
        gather :=
          { s.gather with
            lines := s.gather.lines.set l ((s.line l).inFlush (s.win (s.line l).window) c)
            age := s.gather.age.filter (· != l)
            order := s.gather.order ++ [l] } } := by
  simp [State.startFlush, h, State.setLine, Line.inFlush_eq]

/-- A line that is not GATHERING is left as it is. -/
theorem State.startFlush_other (s : State) (l : LineId) (c : FlushCause) (h : (s.line l).state ≠ .gathering) :
    s.startFlush l c = s := by
  simp [State.startFlush, h]

theorem claimFold_spec (p : LineId → Bool) (c : FlushCause) (ls : List LineId) (s : State) (hn : ls.Nodup)
    (hg : ∀ l ∈ ls, (s.line l).state = .gathering) :
    let t := ls.foldl (fun t l => if p l then t.startFlush l c else t) s
    (∀ l, t.line l =
      if l ∈ ls ∧ p l = true then (s.line l).inFlush (s.win (s.line l).window) c else s.line l) ∧
    t.gather.age = s.gather.age.filter (fun l => !(decide (l ∈ ls) && p l)) ∧
    t.gather.order = s.gather.order ++ ls.filter p ∧ t.gather.present = s.gather.present ∧ t.windows = s.windows := by
  induction ls generalizing s with
  | nil => simp
  | cons a ls ih =>
    obtain ⟨ha, hn⟩ := List.nodup_cons.1 hn
    rw [List.foldl_cons]
    by_cases hp : p a = true
    · simp only [hp, if_true]
      have hga := hg a (List.mem_cons_self ..)
      have e := s.startFlush_gathering a c hga
      have hl : ∀ l, (s.startFlush a c).line l =
          if a = l then (s.line a).inFlush (s.win (s.line a).window) c else s.line l := by
        intro l
        have := State.line_setLine s a l ((s.line a).inFlush (s.win (s.line a).window) c)
        rw [e]; exact this
      have hw : ∀ w, (s.startFlush a c).win w = s.win w := fun w => State.win_congr (by rw [e]) w
      obtain ⟨h1, h2, h3, h4, h5⟩ := ih (s.startFlush a c) hn (by
        intro l hm
        rw [hl, if_neg (by rintro rfl; exact ha hm)]
        exact hg l (List.mem_cons_of_mem _ hm))
      refine ⟨?_, ?_, ?_, ?_, ?_⟩
      · intro l
        rw [h1, hl]
        by_cases hal : a = l
        · subst hal; simp [ha, hp]
        · have : l ≠ a := fun h => hal h.symm
          simp [hal, this, hw]
      · rw [h2, e]
        simp only [List.filter_filter]
        apply List.filter_congr
        intro x _
        by_cases hx : x = a
        · subst hx; simp [hp]
        · simp [hx]
      · rw [h3, e]; simp [hp]
      · rw [h4, e]
      · rw [h5, e]
    · simp only [hp]
      obtain ⟨h1, h2, h3, h4, h5⟩ := ih s hn (fun l hm => hg l (List.mem_cons_of_mem _ hm))
      refine ⟨?_, ?_, ?_, h4, h5⟩
      · intro l
        refine (h1 l).trans ?_
        by_cases hla : l = a
        · subst hla; simp [ha, hp]
        · simp [hla]
      · refine h2.trans ?_
        apply List.filter_congr
        intro x _
        by_cases hx : x = a
        · subst hx; simp [ha, hp]
        · simp [hx]
      · refine h3.trans ?_
        simp [hp]

/-- A claim, where the age list is the list of the GATHERING lines: each line that p names starts flushing, in the order of the age
list, and nothing else changes (R45, R55). -/
theorem State.claim_spec (s : State) (p : Line → Bool) (c : FlushCause) (h : s.gatherLaw) :
    (∀ l, (s.claim p c).line l =
      if (s.line l).state = .gathering ∧ p (s.line l) = true then (s.line l).inFlush (s.win (s.line l).window) c
      else s.line l) ∧
    (s.claim p c).gather.age = s.gather.age.filter (fun l => !p (s.line l)) ∧
    (s.claim p c).gather.order = s.gather.order ++ s.gather.age.filter (fun l => p (s.line l)) ∧
    (s.claim p c).gather.present = s.gather.present ∧ (s.claim p c).windows = s.windows := by
  obtain ⟨ha, -, hm⟩ := h
  obtain ⟨h1, h2, h3, h4, h5⟩ := claimFold_spec (fun l => p (s.line l)) c s.gather.age s ha (fun l hl => (hm l).1.1 hl)
  refine ⟨?_, ?_, h3, h4, h5⟩
  · intro l
    refine (h1 l).trans ?_
    simp only [(hm l).1]
  · refine h2.trans (List.filter_congr ?_)
    intro l hl
    simp [hl]

/-- A claim frees no line and takes none out of FREE, so a wait set may be formed before it (R55). -/
theorem State.claim_free (s : State) (p : Line → Bool) (c : FlushCause) (h : s.gatherLaw) (l : LineId) :
    ((s.claim p c).line l).state = .free ↔ (s.line l).state = .free := by
  rw [(s.claim_spec p c h).1 l]
  split
  · next hg => simp [Line.inFlush, hg.1]
  · rfl

/-! ### Placement (R46, R47) -/

/-- The command of an attempt is the attempt. -/
theorem State.attemptsBeat_exec {s : State} {c : Instr} {h : Handling} {b : HeldBeat} (ha : s.attemptsBeat c h b) :
    exec c s = .next (s.attempt b).settle := by
  obtain ⟨h0, ⟨rfl, h1, h2⟩ | ⟨rfl, r, ⟨-, h1, h2, h3⟩, h4, h5, h6, h7, h8⟩⟩ := ha
  · simp [exec, execPlacementRetry, eventOutcome, State.retryEvent, h0, h1, h2]
  · simp [exec, execBeatHandle, eventOutcome, State.beatEvent, h0, State.headRequest, h1, h2, h3, State.handleBeat,
      State.classify, h6, h7, h4, State.writeBeat, h5, ← h8]

/-! ### Blocks (Table 11-3) -/

theorem orFold_getLsbD (f : Nat → Byte) (n : Nat) (b : Block) (i : Nat) (hi : i < 512) :
    ((List.range n).foldl (fun d j => d ||| ((f j).setWidth 512 <<< (8 * j))) b).getLsbD i =
      (b.getLsbD i || (decide (i / 8 < n) && (f (i / 8)).getLsbD (i % 8))) := by
  induction n with
  | zero => simp
  | succ n ih =>
    rw [List.range_succ, List.foldl_append, List.foldl_cons, List.foldl_nil, BitVec.getLsbD_or, ih,
      BitVec.getLsbD_shiftLeft, BitVec.getLsbD_setWidth]
    by_cases h : i / 8 = n
    · have e1 : ¬i < 8 * n := by omega
      have e2 : i - 8 * n = i % 8 := by omega
      have e3 : i - 8 * n < 512 := by omega
      have e4 : n < n + 1 := by omega
      have e5 : i % 8 < 512 := by omega
      simp [h, hi, e1, e2, e4, e5]
    · have e : (decide (i < 512) && !decide (i < 8 * n) && (decide (i - 8 * n < 512) && (f n).getLsbD (i - 8 * n))) = false := by
        by_cases h1 : i < 8 * n
        · simp [h1]
        · have : 8 ≤ i - 8 * n := by omega
          simp [BitVec.getLsbD_of_ge _ _ this]
      rw [e, Bool.or_false]
      congr 2
      simp only [decide_eq_decide]
      omega

/-- Byte j of the block whose bytes are f. -/
theorem blockByte_blockOf (n : Nat) (f : Nat → Byte) (j : Nat) (hj : j < n) (hn : n ≤ 64) : blockByte (blockOf n f) j = f j := by
  apply BitVec.eq_of_getLsbD_eq
  intro i hi
  unfold blockByte blockOf
  rw [BitVec.getLsbD_extractLsb', orFold_getLsbD _ _ _ _ (by omega)]
  have e1 : (8 * j + i) / 8 = j := by omega
  have e2 : (8 * j + i) % 8 = i := by omega
  simp [hi, e1, e2, hj]

theorem maskFold_getLsbD (f : Nat → Bool) (n : Nat) (m : BlockMask) (i : Nat) (hi : i < 64) :
    ((List.range n).foldl (fun m j => if f j then m ||| (1#64 <<< j) else m) m).getLsbD i =
      (m.getLsbD i || (decide (i < n) && f i)) := by
  induction n with
  | zero => simp
  | succ n ih =>
    rw [List.range_succ, List.foldl_append, List.foldl_cons, List.foldl_nil]
    have key : ((1#64 <<< n).getLsbD i) = decide (i = n) := by
      rw [BitVec.getLsbD_shiftLeft]
      by_cases h : i = n
      · subst h; simp [hi]
      · by_cases h1 : i < n
        · simp [h1, h]
        · have : i - n ≠ 0 := by omega
          simp [BitVec.getLsbD_one, this, h]
    by_cases hi' : i = n
    · subst hi'
      cases hf : f i
      · simp [hf, ih]
      · simp [hf, ih, key]
    · have e : decide (i ≤ n) = decide (i < n) := by simp only [decide_eq_decide]; omega
      cases hf : f n
      · simp [ih, e]
      · simp [ih, key, hi', e]

/-- Mask bit j of the masks f. -/
theorem maskOf_getLsbD (n : Nat) (f : Nat → Bool) (j : Nat) (hj : j < 64) :
    (maskOf n f).getLsbD j = (decide (j < n) && f j) := by
  unfold maskOf
  rw [maskFold_getLsbD _ _ _ _ hj]
  simp

/-- Every mask of n bytes set. -/
theorem fullMask_getLsbD (n j : Nat) (hj : j < 64) : (fullMask n).getLsbD j = decide (j < n) := by
  unfold fullMask
  rw [BitVec.getLsbD_ofNat]
  simp [hj, Nat.testBit_two_pow_sub_one]

end Sys2Proof.Machine
end

