-- ==== Sys2Proof/Laws/Memory.lean ====
section
/-! SUPPORT. The memory behind the link: every operation keeps its canonical form, and a byte reads as it was last written. -/

namespace Sys2Proof.Machine

theorem Memory.wf_nil : Memory.wf [] = true := rfl

/-- The form, cell by cell. -/
theorem Memory.wf_cons (a : Nat) (b : Byte) (m : Memory) :
    Memory.wf ((a, b) :: m) = true ↔ (∀ c ∈ m.head?, a < c.1) ∧ Memory.wf m = true := by
  cases m with
  | nil => simp [Memory.wf]
  | cons c m => simp [Memory.wf]

/-- A write puts no cell before both its own and the first. -/
theorem Memory.write_head (m : Memory) (x : Nat) (v : Byte) : ∀ c ∈ (m.write x v).head?, c.1 = x ∨ c ∈ m.head? := by
  cases m with
  | nil => simp [Memory.write]
  | cons d m =>
    obtain ⟨a, b⟩ := d
    unfold Memory.write
    (repeat' split) <;> simp_all

/-- A write keeps the canonical form. -/
theorem Memory.write_wf (m : Memory) (x : Nat) (v : Byte) (h : m.wf = true) : (m.write x v).wf = true := by
  induction m with
  | nil => simp [Memory.write, Memory.wf]
  | cons d m ih =>
    obtain ⟨a, b⟩ := d
    rw [Memory.wf_cons] at h
    unfold Memory.write
    split
    · next hx => rw [Memory.wf_cons]; exact ⟨by simp [hx], by rw [Memory.wf_cons]; exact h⟩
    · split
      · next hx => subst hx; rw [Memory.wf_cons]; exact h
      · next hx hne =>
        rw [Memory.wf_cons]
        refine ⟨?_, ih h.2⟩
        intro c hc
        rcases Memory.write_head m x v c hc with h1 | h1
        · omega
        · exact h.1 c h1

/-- In canonical form a cell's address lies below every later one, so it reads as none later. -/
theorem Memory.read_below (m : Memory) (x : Nat) (h : m.wf = true) (hx : ∀ c ∈ m.head?, x < c.1) : m.read x = none := by
  induction m with
  | nil => rfl
  | cons d m ih =>
    obtain ⟨a, b⟩ := d
    rw [Memory.wf_cons] at h
    have ha : x < a := hx (a, b) (by simp)
    unfold Memory.read
    rw [if_neg (by omega)]
    exact ih h.2 (fun c hc => lt_trans ha (h.1 c hc))

/-- A byte reads as it was last written; every other byte reads as before. -/
theorem Memory.read_write (m : Memory) (x y : Nat) (v : Byte) (h : m.wf = true) :
    (m.write x v).read y = if x = y then some v else m.read y := by
  induction m with
  | nil => simp [Memory.write, Memory.read]
  | cons d m ih =>
    obtain ⟨a, b⟩ := d
    rw [Memory.wf_cons] at h
    unfold Memory.write
    split
    · simp [Memory.read]
    · split
      · next hx =>
        subst hx
        simp only [Memory.read]
        split <;> simp_all
      · next hx hne =>
        simp only [Memory.read, ih h.2]
        split <;> split <;> simp_all

/-- A performed request keeps the canonical form. -/
theorem Memory.perform_wf (m : Memory) (r : MemRequest) (h : m.wf = true) : (m.perform r).wf = true := by
  unfold Memory.perform
  generalize List.range (8 * r.words) = js
  induction js generalizing m with
  | nil => exact h
  | cons j js ih =>
    rw [List.foldl_cons]
    apply ih
    split
    · exact m.write_wf _ _ h
    · exact h

/-- A byte outside a performed request's words reads as before. -/
theorem Memory.perform_read_outside (m : Memory) (r : MemRequest) (y : Nat) (h : m.wf = true)
    (hy : y < r.addr.toNat ∨ r.addr.toNat + 8 * r.words ≤ y) : (m.perform r).read y = m.read y := by
  unfold Memory.perform
  have hj : ∀ j ∈ List.range (8 * r.words), r.addr.toNat + j ≠ y := by
    intro j hj
    rw [List.mem_range] at hj
    omega
  revert hj
  generalize List.range (8 * r.words) = js
  intro hj
  induction js generalizing m with
  | nil => rfl
  | cons j js ih =>
    rw [List.foldl_cons]
    have hne := hj j (by simp)
    split
    · rw [ih _ (m.write_wf _ _ h) (fun k hk => hj k (by simp [hk])), Memory.read_write _ _ _ _ h, if_neg hne]
    · exact ih _ h (fun k hk => hj k (by simp [hk]))

/-- A write that the bridge has given up on keeps the canonical form, performed or not. -/
theorem State.lateWrite_wf (s : State) (o : Outstanding) (h : s.memory.wf = true) : (s.lateWrite o).memory.wf = true := by
  unfold State.lateWrite
  split
  · dsimp only
    split
    · exact s.memory.perform_wf _ h
    · exact h
  · exact h

/-- So do all of them. -/
theorem State.lateWrites_wf (s : State) (h : s.memory.wf = true) : s.lateWrites.memory.wf = true := by
  unfold State.lateWrites
  generalize s.link.outstanding = os
  induction os generalizing s with
  | nil => exact h
  | cons o os ih =>
    rw [List.foldl_cons]
    exact ih _ (s.lateWrite_wf o h)

end Sys2Proof.Machine
end

