-- ==== Sys2Proof/Laws/PerInstr.lean ====
section
/-! SUPPORT. What well-formedness means, command by command: which operands the links can carry. -/

namespace Sys2Proof.Laws

/-- A command is well-formed exactly where its operands have the size that the spec gives them: 1 to 16 beats of a request (Table
8-1), at most eight words of a response (R120), and a kind byte that is neither 3Ah nor 3Bh for a void transaction (R159). -/
def WellFormedMeans.Statement : Instr → Prop
  | .hostRequest r => (Instr.hostRequest r).wellFormed = true ↔ 1 ≤ r.beats ∧ r.beats ≤ 16
  | .memoryResponse (.ok ws) => (Instr.memoryResponse (.ok ws)).wellFormed = true ↔ ws.length ≤ 8
  | .voidTransaction k => (Instr.voidTransaction k).wellFormed = true ↔ k ≠ writeKind ∧ k ≠ readKind
  | i => i.wellFormed = true

theorem WellFormedMeans.deviceReset : WellFormedMeans.Statement .deviceReset := rfl

theorem WellFormedMeans.hostRequest (r : HostRequest) : WellFormedMeans.Statement (.hostRequest r) := by
  simp [WellFormedMeans.Statement, Instr.wellFormed, HostRequest.wellFormed]

theorem WellFormedMeans.requestHandling : WellFormedMeans.Statement .requestHandling := rfl

theorem WellFormedMeans.beatHandle : WellFormedMeans.Statement .beatHandle := rfl

theorem WellFormedMeans.placementRetry : WellFormedMeans.Statement .placementRetry := rfl

theorem WellFormedMeans.runIssue : WellFormedMeans.Statement .runIssue := rfl

theorem WellFormedMeans.hostResponse : WellFormedMeans.Statement .hostResponse := rfl

theorem WellFormedMeans.issueGrant : WellFormedMeans.Statement .issueGrant := rfl

theorem WellFormedMeans.memoryResponse (r : MemReply) : WellFormedMeans.Statement (.memoryResponse r) := by
  cases r <;> simp [WellFormedMeans.Statement, Instr.wellFormed, MemReply.wellFormed]

theorem WellFormedMeans.memoryTimeout : WellFormedMeans.Statement .memoryTimeout := rfl

theorem WellFormedMeans.idleExpiry (l : LineId) : WellFormedMeans.Statement (.idleExpiry l) := rfl

theorem WellFormedMeans.mirrorWaitSatisfied (l : LineId) : WellFormedMeans.Statement (.mirrorWaitSatisfied l) := rfl

theorem WellFormedMeans.drainComplete (w : WindowId) : WellFormedMeans.Statement (.drainComplete w) := rfl

theorem WellFormedMeans.releasePhase2 : WellFormedMeans.Statement .releasePhase2 := rfl

theorem WellFormedMeans.fillAnnounce : WellFormedMeans.Statement .fillAnnounce := rfl

theorem WellFormedMeans.fillPhase2 : WellFormedMeans.Statement .fillPhase2 := rfl

theorem WellFormedMeans.transmissionStart : WellFormedMeans.Statement .transmissionStart := rfl

theorem WellFormedMeans.messageSent : WellFormedMeans.Statement .messageSent := rfl

theorem WellFormedMeans.resyncEnqueue : WellFormedMeans.Statement .resyncEnqueue := rfl

theorem WellFormedMeans.creditEvent : WellFormedMeans.Statement .creditEvent := rfl

theorem WellFormedMeans.stallExpiry : WellFormedMeans.Statement .stallExpiry := rfl

theorem WellFormedMeans.quietExpiry (w : WindowId) : WellFormedMeans.Statement (.quietExpiry w) := rfl

theorem WellFormedMeans.scanStart : WellFormedMeans.Statement .scanStart := rfl

theorem WellFormedMeans.scanReading : WellFormedMeans.Statement .scanReading := rfl

theorem WellFormedMeans.flushAllComplete : WellFormedMeans.Statement .flushAllComplete := rfl

theorem WellFormedMeans.softResetComplete : WellFormedMeans.Statement .softResetComplete := rfl

theorem WellFormedMeans.arm (operand : Byte) : WellFormedMeans.Statement (.arm operand) := rfl

theorem WellFormedMeans.disarm (operand : Byte) : WellFormedMeans.Statement (.disarm operand) := rfl

theorem WellFormedMeans.scan (operand : Byte) : WellFormedMeans.Statement (.scan operand) := rfl

theorem WellFormedMeans.flushAll (operand : Byte) : WellFormedMeans.Statement (.flushAll operand) := rfl

theorem WellFormedMeans.mirrorAttach (operand : Byte) : WellFormedMeans.Statement (.mirrorAttach operand) := rfl

theorem WellFormedMeans.mirrorDetach (operand : Byte) : WellFormedMeans.Statement (.mirrorDetach operand) := rfl

theorem WellFormedMeans.recount (operand : Byte) : WellFormedMeans.Statement (.recount operand) := rfl

theorem WellFormedMeans.faultPop (operand : Byte) : WellFormedMeans.Statement (.faultPop operand) := rfl

theorem WellFormedMeans.resultPop (operand : Byte) : WellFormedMeans.Statement (.resultPop operand) := rfl

theorem WellFormedMeans.softReset (operand : Byte) : WellFormedMeans.Statement (.softReset operand) := rfl

theorem WellFormedMeans.windowFieldCommit (w : WindowId) (f : WinField) (v : Byte) : WellFormedMeans.Statement (.windowFieldCommit w f v) := rfl

theorem WellFormedMeans.entryCommit (e : EntryId) (v : Byte) : WellFormedMeans.Statement (.entryCommit e v) := rfl

theorem WellFormedMeans.globalWrite (g : Setting) (v : Byte) : WellFormedMeans.Statement (.globalWrite g v) := rfl

theorem WellFormedMeans.registerWrite (a : Half) (v : Byte) : WellFormedMeans.Statement (.registerWrite a v) := rfl

theorem WellFormedMeans.readCapture (a : Half) : WellFormedMeans.Statement (.readCapture a) := rfl

theorem WellFormedMeans.voidTransaction (kind : Byte) : WellFormedMeans.Statement (.voidTransaction kind) := by
  simp [WellFormedMeans.Statement, Instr.wellFormed, voidKind]

theorem WellFormedMeans.transactionEnd : WellFormedMeans.Statement .transactionEnd := rfl

theorem WellFormedMeans.boundary (a : Half) : WellFormedMeans.Statement (.boundary a) := rfl

end Sys2Proof.Laws
end

