-- ==== Sys2Proof/Laws/Settle.lean ====
section
/-! SUPPORT. The consequences of an event: what each leaves alone, and induction over `settle`. -/

-- One declaration at a time: the package as one text has many proofs, and a thread for each would not fit the memory limit.
set_option Elab.async false

namespace Sys2Proof.Machine

theorem mirrorWaitEvent_fields {s t : State} {l : LineId} (h : s.mirrorWaitEvent l = some t) :
  (t).host = s.host ∧ (t).windows = s.windows ∧ (t).engine = s.engine ∧ (t).colour = s.colour ∧ (t).mirror = s.mirror ∧
    (t).link = s.link ∧ (t).scan = s.scan ∧ (t).faults = s.faults ∧ (t).port = s.port ∧ (t).refLeft = s.refLeft ∧
    (t).ripe = s.ripe ∧ (t).out = s.out ∧ (t).memory = s.memory ∧ (t).freeCount = s.freeCount ∧ (t).pending = s.pending := by
  revert h
  unfold State.mirrorWaitEvent
  (repeat' split) <;> simp <;> (try (intros; subst_vars; simp))

theorem presentEvent_fields {s t : State} (h : s.presentEvent = some t) :
  (t).host = s.host ∧ (t).windows = s.windows ∧ (t).engine = s.engine ∧ (t).colour = s.colour ∧ (t).mirror = s.mirror ∧
    (t).link = s.link ∧ (t).scan = s.scan ∧ (t).faults = s.faults ∧ (t).port = s.port ∧ (t).refLeft = s.refLeft ∧
    (t).ripe = s.ripe ∧ (t).out = s.out ∧ (t).memory = s.memory ∧ (t).freeCount = s.freeCount ∧ (t).pending = s.pending := by
  revert h
  unfold State.presentEvent
  (repeat' split) <;> simp <;> (try (intros; subst_vars; simp))

theorem fillAnnounceEvent_fields {s t : State} (h : s.fillAnnounceEvent = some t) :
  (t).host = s.host ∧ (t).windows = s.windows ∧ (t).gather = s.gather ∧ (t).colour = s.colour ∧ (t).link = s.link ∧
    (t).scan = s.scan ∧ (t).faults = s.faults ∧ (t).port = s.port ∧ (t).refLeft = s.refLeft ∧ (t).ripe = s.ripe ∧
    (t).out = s.out ∧ (t).memory = s.memory ∧ (t).freeCount = s.freeCount ∧ (t).pending = s.pending := by
  revert h
  unfold State.fillAnnounceEvent
  (repeat' split) <;> simp <;> (try (intros; subst_vars; simp))

theorem fillPhase2Event_fields {s t : State} (h : s.fillPhase2Event = some t) :
  (t).host = s.host ∧ (t).windows = s.windows ∧ (t).gather = s.gather ∧ (t).colour = s.colour ∧ (t).mirror = s.mirror ∧
    (t).link = s.link ∧ (t).scan = s.scan ∧ (t).faults = s.faults ∧ (t).port = s.port ∧ (t).refLeft = s.refLeft ∧
    (t).ripe = s.ripe ∧ (t).out = s.out ∧ (t).memory = s.memory ∧ (t).freeCount = s.freeCount ∧ (t).pending = s.pending := by
  revert h
  unfold State.fillPhase2Event
  (repeat' split) <;> simp <;> (try (intros; subst_vars; simp))

theorem scanReadingEvent_fields {s t : State} (h : s.scanReadingEvent = some t) :
  (t).host = s.host ∧ (t).windows = s.windows ∧ (t).engine = s.engine ∧ (t).gather = s.gather ∧ (t).colour = s.colour ∧
    (t).mirror = s.mirror ∧ (t).link = s.link ∧ (t).faults = s.faults ∧ (t).port = s.port ∧ (t).refLeft = s.refLeft ∧
    (t).ripe = s.ripe ∧ (t).out = s.out ∧ (t).memory = s.memory ∧ (t).freeCount = s.freeCount ∧ (t).pending = s.pending := by
  revert h
  unfold State.scanReadingEvent
  (repeat' split) <;> simp <;> (try (intros; subst_vars; simp))

theorem runIssueEvent_fields {s t : State} (h : s.runIssueEvent = some t) :
  (t).windows = s.windows ∧ (t).engine = s.engine ∧ (t).gather = s.gather ∧ (t).colour = s.colour ∧ (t).mirror = s.mirror ∧
    (t).link = s.link ∧ (t).scan = s.scan ∧ (t).faults = s.faults ∧ (t).port = s.port ∧ (t).refLeft = s.refLeft ∧
    (t).ripe = s.ripe ∧ (t).out = s.out ∧ (t).memory = s.memory ∧ (t).freeCount = s.freeCount ∧ (t).pending = s.pending := by
  revert h
  unfold State.runIssueEvent
  (repeat' split) <;> simp <;> (try (intros; subst_vars; simp))

theorem haltedEvent_fields {s t : State} (h : s.haltedEvent = some t) :
  (t).mirror = s.mirror ∧ (t).link = s.link ∧ (t).refLeft = s.refLeft ∧ (t).ripe = s.ripe ∧ (t).out = s.out ∧
    (t).memory = s.memory ∧ (t).freeCount = s.freeCount ∧ (t).pending = s.pending := by
  revert h
  unfold State.haltedEvent
  (repeat' split) <;> simp <;> (try (intros; subst_vars; simp))

theorem flushAllEvent_fields {s t : State} (h : s.flushAllEvent = some t) :
  (t).host = s.host ∧ (t).windows = s.windows ∧ (t).engine = s.engine ∧ (t).gather = s.gather ∧ (t).colour = s.colour ∧
    (t).mirror = s.mirror ∧ (t).link = s.link ∧ (t).scan = s.scan ∧ (t).faults = s.faults ∧ (t).refLeft = s.refLeft ∧
    (t).ripe = s.ripe ∧ (t).out = s.out ∧ (t).memory = s.memory ∧ (t).freeCount = s.freeCount ∧ (t).pending = s.pending := by
  revert h
  unfold State.flushAllEvent
  (repeat' split) <;> simp <;> (try (intros; subst_vars; simp))

theorem softResetEvent_fields {s t : State} (h : s.softResetEvent = some t) :
  (t).engine = s.engine ∧ (t).gather = s.gather ∧ (t).refLeft = s.refLeft ∧ (t).ripe = s.ripe ∧ (t).out = s.out ∧
    (t).memory = s.memory ∧ (t).freeCount = s.freeCount ∧ (t).pending = s.pending := by
  revert h
  unfold State.softResetEvent
  (repeat' split) <;> simp <;> (try (intros; subst_vars; simp))

theorem retryEvent_fields {s t : State} (h : s.retryEvent = some t) :
  (t).link = s.link ∧ (t).faults = s.faults ∧ (t).port = s.port ∧ (t).refLeft = s.refLeft ∧ (t).ripe = s.ripe ∧
    (t).out = s.out ∧ (t).memory = s.memory ∧ (t).freeCount = s.freeCount ∧ (t).pending = s.pending := by
  revert h
  unfold State.retryEvent
  (repeat' split) <;> simp <;> (try (intros; subst_vars; simp))

theorem drainEvent_fields {s t : State} {w : WindowId} (h : s.drainEvent w = some t) :
  (t).host = s.host ∧ (t).engine = s.engine ∧ (t).gather = s.gather ∧ (t).colour = s.colour ∧ (t).mirror = s.mirror ∧
    (t).link = s.link ∧ (t).scan = s.scan ∧ (t).faults = s.faults ∧ (t).port = s.port ∧ (t).refLeft = s.refLeft ∧
    (t).ripe = s.ripe ∧ (t).out = s.out ∧ (t).memory = s.memory ∧ (t).freeCount = s.freeCount ∧ (t).pending = s.pending := by
  revert h
  unfold State.drainEvent
  (repeat' split) <;> simp <;> (try (intros; subst_vars; simp))

theorem release2Event_fields {s t : State} (h : s.release2Event = some t) :
  (t).host = s.host ∧ (t).windows = s.windows ∧ (t).gather = s.gather ∧ (t).colour = s.colour ∧ (t).mirror = s.mirror ∧
    (t).link = s.link ∧ (t).scan = s.scan ∧ (t).faults = s.faults ∧ (t).port = s.port ∧ (t).refLeft = s.refLeft ∧
    (t).ripe = s.ripe ∧ (t).out = s.out ∧ (t).memory = s.memory ∧ (t).freeCount = s.freeCount ∧ (t).pending = s.pending := by
  revert h
  unfold State.release2Event
  (repeat' split) <;> simp <;> (try (intros; subst_vars; simp))

theorem responseEvent_fields {s t : State} (h : s.responseEvent = some t) :
  (t).windows = s.windows ∧ (t).engine = s.engine ∧ (t).gather = s.gather ∧ (t).colour = s.colour ∧ (t).mirror = s.mirror ∧
    (t).link = s.link ∧ (t).scan = s.scan ∧ (t).faults = s.faults ∧ (t).port = s.port ∧ (t).refLeft = s.refLeft ∧
    (t).ripe = s.ripe ∧ (t).memory = s.memory ∧ (t).freeCount = s.freeCount ∧ (t).pending = s.pending := by
  revert h
  unfold State.responseEvent
  (repeat' split) <;> simp <;> (try (intros; subst_vars; simp))

theorem scanStartEvent_fields {s t : State} (h : s.scanStartEvent = some t) :
  (t).host = s.host ∧ (t).engine = s.engine ∧ (t).colour = s.colour ∧ (t).mirror = s.mirror ∧ (t).link = s.link ∧
    (t).faults = s.faults ∧ (t).port = s.port ∧ (t).refLeft = s.refLeft ∧ (t).ripe = s.ripe ∧ (t).out = s.out ∧
    (t).memory = s.memory ∧ (t).freeCount = s.freeCount ∧ (t).pending = s.pending := by
  revert h
  unfold State.scanStartEvent
  (repeat' split) <;> simp <;> (try (intros; subst_vars; simp))

/-- A consequence is one of the fourteen kinds (log entry 2). -/
theorem consequence_cases {s t : State} (h : s.consequence = some t) :
    (∃ l, s.mirrorWaitEvent l = some t) ∨ s.presentEvent = some t ∨ s.fillAnnounceEvent = some t ∨
      s.fillPhase2Event = some t ∨ s.scanReadingEvent = some t ∨ s.runIssueEvent = some t ∨ s.haltedEvent = some t ∨
      s.flushAllEvent = some t ∨ s.softResetEvent = some t ∨ s.retryEvent = some t ∨ (∃ w, s.drainEvent w = some t) ∨
      s.release2Event = some t ∨ s.responseEvent = some t ∨ s.scanStartEvent = some t := by
  unfold State.consequence at h
  simp only [Option.orElse_eq_orElse, Option.orElse_eq_or, Option.or_eq_some_iff] at h
  rcases h with h | ⟨-, h⟩
  · obtain ⟨l, -, hl⟩ := List.exists_of_findSome?_eq_some h
    exact Or.inl ⟨l, hl⟩
  rcases h with h | ⟨-, h⟩
  · tauto
  rcases h with h | ⟨-, h⟩
  · tauto
  rcases h with h | ⟨-, h⟩
  · tauto
  rcases h with h | ⟨-, h⟩
  · tauto
  rcases h with h | ⟨-, h⟩
  · tauto
  rcases h with h | ⟨-, h⟩
  · tauto
  rcases h with h | ⟨-, h⟩
  · tauto
  rcases h with h | ⟨-, h⟩
  · tauto
  rcases h with h | ⟨-, h⟩
  · tauto
  rcases h with h | ⟨-, h⟩
  · obtain ⟨w, -, hw⟩ := List.exists_of_findSome?_eq_some h
    tauto
  rcases h with h | ⟨-, h⟩
  · tauto
  rcases h with h | ⟨-, h⟩ <;> tauto

/-- What every consequence keeps, `settle` keeps. -/
theorem settle_induction (P : State → Prop) (step : ∀ s t, P s → s.consequence = some t → P t) (s : State) (hs : P s) :
    P s.settle := by
  unfold State.settle
  generalize settleBound = n
  induction n generalizing s with
  | zero => exact hs
  | succ n ih =>
    unfold State.settleFor
    split
    · next t ht => exact ih t (step s t hs ht)
    · exact hs

/-- A settled state is left as it is. -/
theorem settle_of_settled {s : State} (h : s.settled = true) : s.settle = s := by
  have hc : s.consequence = none := by simpa [State.settled] using h
  unfold State.settle settleBound
  unfold State.settleFor
  rw [hc]

/-- No consequence reaches the timebase, the memory behind the link, the free-value counter or the queue. -/
theorem consequence_fields {s t : State} (h : s.consequence = some t) :
    t.refLeft = s.refLeft ∧ t.ripe = s.ripe ∧ t.memory = s.memory ∧ t.freeCount = s.freeCount ∧ t.pending = s.pending := by
  rcases consequence_cases h with ⟨l, h⟩ | h | h | h | h | h | h | h | h | h | ⟨w, h⟩ | h | h | h
  · simp [mirrorWaitEvent_fields h]
  · simp [presentEvent_fields h]
  · simp [fillAnnounceEvent_fields h]
  · simp [fillPhase2Event_fields h]
  · simp [scanReadingEvent_fields h]
  · simp [runIssueEvent_fields h]
  · simp [haltedEvent_fields h]
  · simp [flushAllEvent_fields h]
  · simp [softResetEvent_fields h]
  · simp [retryEvent_fields h]
  · simp [drainEvent_fields h]
  · simp [release2Event_fields h]
  · simp [responseEvent_fields h]
  · simp [scanStartEvent_fields h]

@[simp] theorem State.settle_fields (s : State) :
    s.settle.refLeft = s.refLeft ∧ s.settle.ripe = s.ripe ∧ s.settle.memory = s.memory ∧ s.settle.freeCount = s.freeCount ∧
      s.settle.pending = s.pending := by
  apply settle_induction (fun t => t.refLeft = s.refLeft ∧ t.ripe = s.ripe ∧ t.memory = s.memory ∧
    t.freeCount = s.freeCount ∧ t.pending = s.pending)
  · intro a b ha hb
    have := consequence_fields hb
    simp_all
  · simp

end Sys2Proof.Machine
end

