-- ==== Sys2Proof/Laws/Step.lean ====
section
/-! SUPPORT. What each event leaves alone, that every command goes on, and what is enough for a law to be kept by every step. -/

-- One declaration at a time: the package as one text has many proofs, and a thread for each would not fit the memory limit.
set_option Elab.async false

namespace Sys2Proof.Machine

/-! ### Events that need a condition -/

theorem requestEvent_fields {s t : State} (h : s.requestEvent = some t) :
  (t).windows = s.windows ∧ (t).engine = s.engine ∧ (t).gather = s.gather ∧ (t).colour = s.colour ∧ (t).mirror = s.mirror ∧
    (t).link = s.link ∧ (t).scan = s.scan ∧ (t).faults = s.faults ∧ (t).port = s.port ∧ (t).refLeft = s.refLeft ∧
    (t).ripe = s.ripe ∧ (t).memory = s.memory ∧ (t).freeCount = s.freeCount ∧ (t).pending = s.pending := by
  revert h
  unfold State.requestEvent
  (repeat' split) <;> simp <;> (try (intros; subst_vars; simp))

@[simp] theorem State.groupRead_fields (s : State) (h : Handling) (w : WindowId) (g i : Nat) :
  (s.groupRead h w g i).windows = s.windows ∧ (s.groupRead h w g i).engine = s.engine ∧
    (s.groupRead h w g i).gather = s.gather ∧ (s.groupRead h w g i).colour = s.colour ∧
    (s.groupRead h w g i).mirror = s.mirror ∧ (s.groupRead h w g i).link = s.link ∧ (s.groupRead h w g i).scan = s.scan ∧
    (s.groupRead h w g i).faults = s.faults ∧ (s.groupRead h w g i).port = s.port ∧
    (s.groupRead h w g i).refLeft = s.refLeft ∧ (s.groupRead h w g i).ripe = s.ripe ∧ (s.groupRead h w g i).out = s.out ∧
    (s.groupRead h w g i).memory = s.memory ∧ (s.groupRead h w g i).freeCount = s.freeCount ∧
    (s.groupRead h w g i).pending = s.pending := by
  unfold State.groupRead
  (repeat' split) <;> simp

@[simp] theorem State.readBeat_fields (s : State) (h : Handling) (w : WindowId) (i : Nat) :
  (s.readBeat h w i).windows = s.windows ∧ (s.readBeat h w i).engine = s.engine ∧ (s.readBeat h w i).gather = s.gather ∧
    (s.readBeat h w i).colour = s.colour ∧ (s.readBeat h w i).mirror = s.mirror ∧ (s.readBeat h w i).link = s.link ∧
    (s.readBeat h w i).scan = s.scan ∧ (s.readBeat h w i).faults = s.faults ∧ (s.readBeat h w i).port = s.port ∧
    (s.readBeat h w i).refLeft = s.refLeft ∧ (s.readBeat h w i).ripe = s.ripe ∧ (s.readBeat h w i).out = s.out ∧
    (s.readBeat h w i).memory = s.memory ∧ (s.readBeat h w i).freeCount = s.freeCount ∧
    (s.readBeat h w i).pending = s.pending := by
  unfold State.readBeat
  dsimp only
  split <;> simp

@[simp] theorem State.passBeat_fields (s : State) (r : HostRequest) (i : Nat) :
  (s.passBeat r i).windows = s.windows ∧ (s.passBeat r i).engine = s.engine ∧ (s.passBeat r i).colour = s.colour ∧
    (s.passBeat r i).mirror = s.mirror ∧ (s.passBeat r i).link = s.link ∧ (s.passBeat r i).scan = s.scan ∧
    (s.passBeat r i).faults = s.faults ∧ (s.passBeat r i).port = s.port ∧ (s.passBeat r i).refLeft = s.refLeft ∧
    (s.passBeat r i).ripe = s.ripe ∧ (s.passBeat r i).out = s.out ∧ (s.passBeat r i).memory = s.memory ∧
    (s.passBeat r i).freeCount = s.freeCount ∧ (s.passBeat r i).pending = s.pending := by
  unfold State.passBeat
  dsimp only
  split <;> simp

@[simp] theorem State.writeBeat_fields (s : State) (w : WindowId) (i : Nat) (b : WriteBeat) :
  (s.writeBeat w i b).link = s.link ∧ (s.writeBeat w i b).faults = s.faults ∧ (s.writeBeat w i b).port = s.port ∧
    (s.writeBeat w i b).refLeft = s.refLeft ∧ (s.writeBeat w i b).ripe = s.ripe ∧ (s.writeBeat w i b).out = s.out ∧
    (s.writeBeat w i b).memory = s.memory ∧ (s.writeBeat w i b).freeCount = s.freeCount ∧
    (s.writeBeat w i b).pending = s.pending := by
  unfold State.writeBeat
  (repeat' split) <;> simp

@[simp] theorem State.handleBeat_fields (s : State) (h : Handling) (r : HostRequest) (i : Nat) :
  (s.handleBeat h r i).link = s.link ∧ (s.handleBeat h r i).faults = s.faults ∧ (s.handleBeat h r i).port = s.port ∧
    (s.handleBeat h r i).refLeft = s.refLeft ∧ (s.handleBeat h r i).ripe = s.ripe ∧ (s.handleBeat h r i).out = s.out ∧
    (s.handleBeat h r i).memory = s.memory ∧ (s.handleBeat h r i).freeCount = s.freeCount ∧
    (s.handleBeat h r i).pending = s.pending := by
  unfold State.handleBeat
  (repeat' split) <;> simp

theorem beatEvent_fields {s t : State} (h : s.beatEvent = some t) :
  (t).link = s.link ∧ (t).faults = s.faults ∧ (t).port = s.port ∧ (t).refLeft = s.refLeft ∧ (t).ripe = s.ripe ∧
    (t).out = s.out ∧ (t).memory = s.memory ∧ (t).freeCount = s.freeCount ∧ (t).pending = s.pending := by
  revert h
  unfold State.beatEvent
  (repeat' split) <;> simp <;> (try (intros; subst_vars; simp))

@[simp] theorem State.markIssued_fields (s : State) (q : Requester) :
  (s.markIssued q).windows = s.windows ∧ (s.markIssued q).colour = s.colour ∧ (s.markIssued q).mirror = s.mirror ∧
    (s.markIssued q).link = s.link ∧ (s.markIssued q).faults = s.faults ∧ (s.markIssued q).port = s.port ∧
    (s.markIssued q).refLeft = s.refLeft ∧ (s.markIssued q).ripe = s.ripe ∧ (s.markIssued q).out = s.out ∧
    (s.markIssued q).memory = s.memory ∧ (s.markIssued q).freeCount = s.freeCount ∧ (s.markIssued q).pending = s.pending := by
  unfold State.markIssued
  split <;> simp

theorem grantEvent_fields {s t : State} (h : s.grantEvent = some t) :
  (t).windows = s.windows ∧ (t).colour = s.colour ∧ (t).mirror = s.mirror ∧ (t).faults = s.faults ∧ (t).port = s.port ∧
    (t).refLeft = s.refLeft ∧ (t).ripe = s.ripe ∧ (t).out = s.out ∧ (t).memory = s.memory ∧ (t).freeCount = s.freeCount ∧
    (t).pending = s.pending := by
  revert h
  unfold State.grantEvent
  (repeat' split) <;> simp <;> (try (intros; subst_vars; simp))

theorem idleEvent_fields {s t : State} {l : LineId} (h : s.idleEvent l = some t) :
  (t).host = s.host ∧ (t).windows = s.windows ∧ (t).engine = s.engine ∧ (t).colour = s.colour ∧ (t).mirror = s.mirror ∧
    (t).link = s.link ∧ (t).scan = s.scan ∧ (t).faults = s.faults ∧ (t).port = s.port ∧ (t).refLeft = s.refLeft ∧
    (t).ripe = s.ripe ∧ (t).out = s.out ∧ (t).memory = s.memory ∧ (t).freeCount = s.freeCount ∧ (t).pending = s.pending := by
  revert h
  unfold State.idleEvent
  (repeat' split) <;> simp <;> (try (intros; subst_vars; simp))

theorem startEvent_fields {s t : State} (h : s.startEvent = some t) :
  (t).host = s.host ∧ (t).windows = s.windows ∧ (t).engine = s.engine ∧ (t).gather = s.gather ∧ (t).colour = s.colour ∧
    (t).link = s.link ∧ (t).scan = s.scan ∧ (t).faults = s.faults ∧ (t).port = s.port ∧ (t).refLeft = s.refLeft ∧
    (t).ripe = s.ripe ∧ (t).out = s.out ∧ (t).memory = s.memory ∧ (t).freeCount = s.freeCount ∧ (t).pending = s.pending := by
  revert h
  unfold State.startEvent
  (repeat' split) <;> simp <;> (try (intros; subst_vars; simp))

theorem sentEvent_fields {s t : State} (h : s.sentEvent = some t) :
  (t).host = s.host ∧ (t).windows = s.windows ∧ (t).gather = s.gather ∧ (t).link = s.link ∧ (t).scan = s.scan ∧
    (t).faults = s.faults ∧ (t).port = s.port ∧ (t).refLeft = s.refLeft ∧ (t).ripe = s.ripe ∧ (t).memory = s.memory ∧
    (t).freeCount = s.freeCount ∧ (t).pending = s.pending := by
  revert h
  unfold State.sentEvent
  (repeat' split) <;> simp <;> (try (intros; subst_vars; simp))

theorem resyncEvent_fields {s t : State} (h : s.resyncEvent = some t) :
  (t).host = s.host ∧ (t).windows = s.windows ∧ (t).engine = s.engine ∧ (t).gather = s.gather ∧ (t).colour = s.colour ∧
    (t).link = s.link ∧ (t).scan = s.scan ∧ (t).faults = s.faults ∧ (t).port = s.port ∧ (t).refLeft = s.refLeft ∧
    (t).ripe = s.ripe ∧ (t).out = s.out ∧ (t).memory = s.memory ∧ (t).freeCount = s.freeCount ∧ (t).pending = s.pending := by
  revert h
  unfold State.resyncEvent
  (repeat' split) <;> simp <;> (try (intros; subst_vars; simp))

theorem stallEvent_fields {s t : State} (h : s.stallEvent = some t) :
  (t).host = s.host ∧ (t).windows = s.windows ∧ (t).engine = s.engine ∧ (t).gather = s.gather ∧ (t).link = s.link ∧
    (t).scan = s.scan ∧ (t).port = s.port ∧ (t).refLeft = s.refLeft ∧ (t).ripe = s.ripe ∧ (t).out = s.out ∧
    (t).memory = s.memory ∧ (t).freeCount = s.freeCount ∧ (t).pending = s.pending := by
  revert h
  unfold State.stallEvent
  (repeat' split) <;> simp <;> (try (intros; subst_vars; simp))

theorem quietEvent_fields {s t : State} {w : WindowId} (h : s.quietEvent w = some t) :
  (t).host = s.host ∧ (t).engine = s.engine ∧ (t).gather = s.gather ∧ (t).colour = s.colour ∧ (t).mirror = s.mirror ∧
    (t).link = s.link ∧ (t).scan = s.scan ∧ (t).faults = s.faults ∧ (t).port = s.port ∧ (t).refLeft = s.refLeft ∧
    (t).ripe = s.ripe ∧ (t).out = s.out ∧ (t).memory = s.memory ∧ (t).freeCount = s.freeCount ∧ (t).pending = s.pending := by
  revert h
  unfold State.quietEvent
  (repeat' split) <;> simp <;> (try (intros; subst_vars; simp))

/-! ### Other events -/

@[simp] theorem State.credit_fields (s : State) :
  (s.credit).host = s.host ∧ (s.credit).windows = s.windows ∧ (s.credit).engine = s.engine ∧ (s.credit).gather = s.gather ∧
    (s.credit).colour = s.colour ∧ (s.credit).link = s.link ∧ (s.credit).scan = s.scan ∧ (s.credit).port = s.port ∧
    (s.credit).refLeft = s.refLeft ∧ (s.credit).ripe = s.ripe ∧ (s.credit).out = s.out ∧ (s.credit).memory = s.memory ∧
    (s.credit).freeCount = s.freeCount ∧ (s.credit).pending = s.pending := by
  unfold State.credit
  (repeat' split) <;> simp

@[simp] theorem State.postedFail_fields (s : State) (r : MemRequest) :
  (s.postedFail r).host = s.host ∧ (s.postedFail r).windows = s.windows ∧ (s.postedFail r).engine = s.engine ∧
    (s.postedFail r).gather = s.gather ∧ (s.postedFail r).colour = s.colour ∧ (s.postedFail r).mirror = s.mirror ∧
    (s.postedFail r).link = s.link ∧ (s.postedFail r).scan = s.scan ∧ (s.postedFail r).port = s.port ∧
    (s.postedFail r).refLeft = s.refLeft ∧ (s.postedFail r).ripe = s.ripe ∧ (s.postedFail r).out = s.out ∧
    (s.postedFail r).memory = s.memory ∧ (s.postedFail r).pending = s.pending := by
  unfold State.postedFail
  split <;> simp

@[simp] theorem State.deliverOk_fields (s : State) (o : Outstanding) (d : Block) :
  (s.deliverOk o d).mirror = s.mirror ∧ (s.deliverOk o d).link = s.link ∧ (s.deliverOk o d).refLeft = s.refLeft ∧
    (s.deliverOk o d).ripe = s.ripe ∧ (s.deliverOk o d).out = s.out ∧ (s.deliverOk o d).memory = s.memory ∧
    (s.deliverOk o d).pending = s.pending := by
  unfold State.deliverOk
  split <;> simp

@[simp] theorem State.deliverError_fields (s : State) (o : Outstanding) (b : Bool) :
  (s.deliverError o b).mirror = s.mirror ∧ (s.deliverError o b).link = s.link ∧ (s.deliverError o b).refLeft = s.refLeft ∧
    (s.deliverError o b).ripe = s.ripe ∧ (s.deliverError o b).out = s.out ∧ (s.deliverError o b).memory = s.memory ∧
    (s.deliverError o b).pending = s.pending := by
  unfold State.deliverError
  split <;> (try split) <;> simp

@[simp] theorem State.performed_fields (s : State) (o : Outstanding) :
  (s.performed o).host = s.host ∧ (s.performed o).windows = s.windows ∧ (s.performed o).engine = s.engine ∧
    (s.performed o).gather = s.gather ∧ (s.performed o).colour = s.colour ∧ (s.performed o).mirror = s.mirror ∧
    (s.performed o).link = s.link ∧ (s.performed o).scan = s.scan ∧ (s.performed o).faults = s.faults ∧
    (s.performed o).port = s.port ∧ (s.performed o).refLeft = s.refLeft ∧ (s.performed o).ripe = s.ripe ∧
    (s.performed o).out = s.out ∧ (s.performed o).freeCount = s.freeCount ∧ (s.performed o).pending = s.pending := by
  unfold State.performed
  split <;> simp

@[simp] theorem State.respondMemory_fields (s : State) (r : MemReply) :
  (s.respondMemory r).mirror = s.mirror ∧ (s.respondMemory r).refLeft = s.refLeft ∧ (s.respondMemory r).out = s.out ∧
    (s.respondMemory r).pending = s.pending := by
  unfold State.respondMemory
  (repeat' split) <;> simp [State.strayResponse]

@[simp] theorem State.failPresented_fields (s : State) (e : Option (MemRequest × Requester)) :
  (s.failPresented e).mirror = s.mirror ∧ (s.failPresented e).link = s.link ∧ (s.failPresented e).refLeft = s.refLeft ∧
    (s.failPresented e).ripe = s.ripe ∧ (s.failPresented e).out = s.out ∧ (s.failPresented e).memory = s.memory ∧
    (s.failPresented e).freeCount = s.freeCount ∧ (s.failPresented e).pending = s.pending := by
  unfold State.failPresented
  dsimp only
  (repeat' split) <;> simp

@[simp] theorem State.failAll_fields (s : State) (b : Bool) (os : List Outstanding) :
  (s.failAll b os).mirror = s.mirror ∧ (s.failAll b os).refLeft = s.refLeft ∧ (s.failAll b os).out = s.out ∧
    (s.failAll b os).memory = s.memory ∧ (s.failAll b os).pending = s.pending := by
  induction os generalizing s with
  | nil => simp [State.failAll]
  | cons o os ih =>
    unfold State.failAll
    dsimp only
    split <;> simp [ih]

@[simp] theorem State.expireMemory_fields (s : State) (o : Outstanding) :
  (s.expireMemory o).mirror = s.mirror ∧ (s.expireMemory o).refLeft = s.refLeft ∧ (s.expireMemory o).out = s.out ∧
    (s.expireMemory o).pending = s.pending := by
  unfold State.expireMemory
  simp

theorem timeoutEvent_fields {s t : State} (h : s.timeoutEvent = some t) :
  (t).mirror = s.mirror ∧ (t).refLeft = s.refLeft ∧ (t).out = s.out ∧ (t).pending = s.pending := by
  revert h
  unfold State.timeoutEvent
  (repeat' split) <;> simp <;> (try (intros; subst_vars; simp))

@[simp] theorem State.tick_fields (s : State) :
  (s.tick).host = s.host ∧ (s.tick).engine = s.engine ∧ (s.tick).colour = s.colour ∧ (s.tick).scan = s.scan ∧
    (s.tick).faults = s.faults ∧ (s.tick).port = s.port ∧ (s.tick).refLeft = s.refLeft ∧ (s.tick).out = s.out ∧
    (s.tick).memory = s.memory ∧ (s.tick).freeCount = s.freeCount ∧ (s.tick).pending = s.pending := by
  simp [State.tick]

@[simp] theorem State.refclk_fields (s : State) :
  (s.refclk).host = s.host ∧ (s.refclk).engine = s.engine ∧ (s.refclk).colour = s.colour ∧ (s.refclk).scan = s.scan ∧
    (s.refclk).faults = s.faults ∧ (s.refclk).port = s.port ∧ (s.refclk).out = s.out ∧ (s.refclk).memory = s.memory ∧
    (s.refclk).freeCount = s.freeCount ∧ (s.refclk).pending = s.pending := by
  unfold State.refclk
  split <;> simp

/-! ### Management port -/

@[simp] theorem State.armAdaptive_fields (s : State) (w : WindowId) :
  (s.armAdaptive w).gather = s.gather ∧ (s.armAdaptive w).mirror = s.mirror ∧ (s.armAdaptive w).link = s.link ∧
    (s.armAdaptive w).scan = s.scan ∧ (s.armAdaptive w).faults = s.faults ∧ (s.armAdaptive w).port = s.port ∧
    (s.armAdaptive w).refLeft = s.refLeft ∧ (s.armAdaptive w).ripe = s.ripe ∧ (s.armAdaptive w).out = s.out ∧
    (s.armAdaptive w).memory = s.memory ∧ (s.armAdaptive w).freeCount = s.freeCount ∧ (s.armAdaptive w).pending = s.pending := by
  simp [State.armAdaptive]

@[simp] theorem State.armPlain_fields (s : State) (w : WindowId) :
  (s.armPlain w).engine = s.engine ∧ (s.armPlain w).gather = s.gather ∧ (s.armPlain w).colour = s.colour ∧
    (s.armPlain w).mirror = s.mirror ∧ (s.armPlain w).link = s.link ∧ (s.armPlain w).scan = s.scan ∧
    (s.armPlain w).faults = s.faults ∧ (s.armPlain w).port = s.port ∧ (s.armPlain w).refLeft = s.refLeft ∧
    (s.armPlain w).ripe = s.ripe ∧ (s.armPlain w).out = s.out ∧ (s.armPlain w).memory = s.memory ∧
    (s.armPlain w).freeCount = s.freeCount ∧ (s.armPlain w).pending = s.pending := by
  simp [State.armPlain]

@[simp] theorem State.disarmed_fields (s : State) (w : WindowId) :
  (s.disarmed w).host = s.host ∧ (s.disarmed w).engine = s.engine ∧ (s.disarmed w).gather = s.gather ∧
    (s.disarmed w).colour = s.colour ∧ (s.disarmed w).mirror = s.mirror ∧ (s.disarmed w).link = s.link ∧
    (s.disarmed w).faults = s.faults ∧ (s.disarmed w).port = s.port ∧ (s.disarmed w).refLeft = s.refLeft ∧
    (s.disarmed w).ripe = s.ripe ∧ (s.disarmed w).out = s.out ∧ (s.disarmed w).memory = s.memory ∧
    (s.disarmed w).freeCount = s.freeCount ∧ (s.disarmed w).pending = s.pending := by
  simp [State.disarmed]

@[simp] theorem State.abortFill_fields (s : State) (w : WindowId) :
  (s.abortFill w).host = s.host ∧ (s.abortFill w).gather = s.gather ∧ (s.abortFill w).mirror = s.mirror ∧
    (s.abortFill w).link = s.link ∧ (s.abortFill w).scan = s.scan ∧ (s.abortFill w).port = s.port ∧
    (s.abortFill w).refLeft = s.refLeft ∧ (s.abortFill w).ripe = s.ripe ∧ (s.abortFill w).out = s.out ∧
    (s.abortFill w).memory = s.memory ∧ (s.abortFill w).freeCount = s.freeCount ∧ (s.abortFill w).pending = s.pending := by
  unfold State.abortFill
  (repeat' split) <;> simp

@[simp] theorem State.drain_fields (s : State) (w : WindowId) :
  (s.drain w).host = s.host ∧ (s.drain w).engine = s.engine ∧ (s.drain w).colour = s.colour ∧
    (s.drain w).mirror = s.mirror ∧ (s.drain w).link = s.link ∧ (s.drain w).scan = s.scan ∧ (s.drain w).faults = s.faults ∧
    (s.drain w).port = s.port ∧ (s.drain w).refLeft = s.refLeft ∧ (s.drain w).ripe = s.ripe ∧ (s.drain w).out = s.out ∧
    (s.drain w).memory = s.memory ∧ (s.drain w).freeCount = s.freeCount ∧ (s.drain w).pending = s.pending := by
  simp [State.drain]

/-- What an accepted action leaves alone. -/
theorem ownRule_fields {s t : State} {code v : Byte} (h : s.ownRule code v = .accept t) :
  (t).link = s.link ∧ (t).refLeft = s.refLeft ∧ (t).ripe = s.ripe ∧ (t).memory = s.memory ∧ (t).freeCount = s.freeCount ∧
    (t).pending = s.pending := by
  revert h
  unfold State.ownRule State.judgeArm State.judgeDisarm State.judgeScan State.judgeFlushAll State.judgeAttach
    State.judgeDetach State.judgeRecount State.judgeFaultPop State.judgeResultPop State.judgeSoftReset
  dsimp only
  (repeat' split) <;> simp <;> (try (intros; subst_vars; simp [State.takeRelease]))

@[simp] theorem State.commitAction_fields (s : State) (code v : Byte) :
  (s.commitAction code v).link = s.link ∧ (s.commitAction code v).refLeft = s.refLeft ∧
    (s.commitAction code v).ripe = s.ripe ∧ (s.commitAction code v).memory = s.memory ∧
    (s.commitAction code v).freeCount = s.freeCount ∧ (s.commitAction code v).pending = s.pending := by
  unfold State.commitAction
  split
  · simp
  · next t h =>
    have : s.ownRule code v = .accept t := by
      revert h
      unfold State.judge
      (repeat' split) <;> simp
    simp [ownRule_fields this]

@[simp] theorem State.actionCommand_fields (s : State) (code v : Byte) :
  (s.actionCommand code v).link = s.link ∧ (s.actionCommand code v).refLeft = s.refLeft ∧
    (s.actionCommand code v).ripe = s.ripe ∧ (s.actionCommand code v).memory = s.memory ∧
    (s.actionCommand code v).freeCount = s.freeCount ∧ (s.actionCommand code v).pending = s.pending := by
  unfold State.actionCommand
  split <;> simp

@[simp] theorem State.commitField_fields (s : State) (st : Staged) (w : WindowId) (f : WinField) (v : Byte) :
  (s.commitField st w f v).host = s.host ∧ (s.commitField st w f v).engine = s.engine ∧
    (s.commitField st w f v).gather = s.gather ∧ (s.commitField st w f v).colour = s.colour ∧
    (s.commitField st w f v).mirror = s.mirror ∧ (s.commitField st w f v).link = s.link ∧
    (s.commitField st w f v).scan = s.scan ∧ (s.commitField st w f v).faults = s.faults ∧
    (s.commitField st w f v).refLeft = s.refLeft ∧ (s.commitField st w f v).ripe = s.ripe ∧
    (s.commitField st w f v).out = s.out ∧ (s.commitField st w f v).memory = s.memory ∧
    (s.commitField st w f v).freeCount = s.freeCount ∧ (s.commitField st w f v).pending = s.pending := by
  unfold State.commitField
  dsimp only
  (repeat' split) <;> simp

@[simp] theorem State.requestColour_fields (s : State) (e : EntryId) (c : Colour) :
  (s.requestColour e c).host = s.host ∧ (s.requestColour e c).windows = s.windows ∧
    (s.requestColour e c).engine = s.engine ∧ (s.requestColour e c).gather = s.gather ∧
    (s.requestColour e c).link = s.link ∧ (s.requestColour e c).scan = s.scan ∧ (s.requestColour e c).faults = s.faults ∧
    (s.requestColour e c).refLeft = s.refLeft ∧ (s.requestColour e c).ripe = s.ripe ∧ (s.requestColour e c).out = s.out ∧
    (s.requestColour e c).memory = s.memory ∧ (s.requestColour e c).freeCount = s.freeCount ∧
    (s.requestColour e c).pending = s.pending := by
  unfold State.requestColour
  split <;> simp

@[simp] theorem State.commitEntry_fields (s : State) (st : Staged) (e : EntryId) (v : Byte) :
  (s.commitEntry st e v).host = s.host ∧ (s.commitEntry st e v).windows = s.windows ∧
    (s.commitEntry st e v).engine = s.engine ∧ (s.commitEntry st e v).gather = s.gather ∧
    (s.commitEntry st e v).link = s.link ∧ (s.commitEntry st e v).scan = s.scan ∧ (s.commitEntry st e v).faults = s.faults ∧
    (s.commitEntry st e v).refLeft = s.refLeft ∧ (s.commitEntry st e v).ripe = s.ripe ∧ (s.commitEntry st e v).out = s.out ∧
    (s.commitEntry st e v).memory = s.memory ∧ (s.commitEntry st e v).freeCount = s.freeCount ∧
    (s.commitEntry st e v).pending = s.pending := by
  unfold State.commitEntry
  split <;> simp

@[simp] theorem State.writeWithin_fields (s : State) (x : Stream) (r : Region) (a : Half) (v : Byte) :
  (s.writeWithin x r a v).link = s.link ∧ (s.writeWithin x r a v).refLeft = s.refLeft ∧
    (s.writeWithin x r a v).ripe = s.ripe ∧ (s.writeWithin x r a v).memory = s.memory ∧
    (s.writeWithin x r a v).freeCount = s.freeCount ∧ (s.writeWithin x r a v).pending = s.pending := by
  unfold State.writeWithin
  split <;> simp

@[simp] theorem State.writeStream_fields (s : State) (x : Stream) (a : Half) (v : Byte) :
  (s.writeStream x a v).link = s.link ∧ (s.writeStream x a v).refLeft = s.refLeft ∧ (s.writeStream x a v).ripe = s.ripe ∧
    (s.writeStream x a v).memory = s.memory ∧ (s.writeStream x a v).freeCount = s.freeCount ∧
    (s.writeStream x a v).pending = s.pending := by
  unfold State.writeStream
  (repeat' split) <;> simp

@[simp] theorem State.openByte_fields (s : State) (b : Bool) (a : Half) :
  (s.openByte b a).host = s.host ∧ (s.openByte b a).windows = s.windows ∧ (s.openByte b a).engine = s.engine ∧
    (s.openByte b a).gather = s.gather ∧ (s.openByte b a).colour = s.colour ∧ (s.openByte b a).mirror = s.mirror ∧
    (s.openByte b a).link = s.link ∧ (s.openByte b a).scan = s.scan ∧ (s.openByte b a).faults = s.faults ∧
    (s.openByte b a).port = s.port ∧ (s.openByte b a).refLeft = s.refLeft ∧ (s.openByte b a).ripe = s.ripe ∧
    (s.openByte b a).memory = s.memory ∧ (s.openByte b a).freeCount = s.freeCount ∧ (s.openByte b a).pending = s.pending := by
  unfold State.openByte
  split <;> simp

@[simp] theorem State.writeByte_fields (s : State) (a : Half) (v : Byte) :
  (s.writeByte a v).link = s.link ∧ (s.writeByte a v).refLeft = s.refLeft ∧ (s.writeByte a v).ripe = s.ripe ∧
    (s.writeByte a v).memory = s.memory ∧ (s.writeByte a v).freeCount = s.freeCount ∧ (s.writeByte a v).pending = s.pending := by
  unfold State.writeByte
  dsimp only
  split <;> simp

@[simp] theorem State.readWithin_fields (s : State) (x : Stream) (r : Region) (a : Half) :
  (s.readWithin x r a).host = s.host ∧ (s.readWithin x r a).windows = s.windows ∧ (s.readWithin x r a).engine = s.engine ∧
    (s.readWithin x r a).gather = s.gather ∧ (s.readWithin x r a).colour = s.colour ∧
    (s.readWithin x r a).mirror = s.mirror ∧ (s.readWithin x r a).link = s.link ∧ (s.readWithin x r a).scan = s.scan ∧
    (s.readWithin x r a).faults = s.faults ∧ (s.readWithin x r a).refLeft = s.refLeft ∧ (s.readWithin x r a).ripe = s.ripe ∧
    (s.readWithin x r a).memory = s.memory ∧ (s.readWithin x r a).freeCount = s.freeCount ∧
    (s.readWithin x r a).pending = s.pending := by
  unfold State.readWithin
  dsimp only
  (repeat' split) <;> simp

@[simp] theorem State.readStream_fields (s : State) (x : Stream) (a : Half) :
  (s.readStream x a).host = s.host ∧ (s.readStream x a).windows = s.windows ∧ (s.readStream x a).engine = s.engine ∧
    (s.readStream x a).gather = s.gather ∧ (s.readStream x a).colour = s.colour ∧ (s.readStream x a).mirror = s.mirror ∧
    (s.readStream x a).link = s.link ∧ (s.readStream x a).scan = s.scan ∧ (s.readStream x a).faults = s.faults ∧
    (s.readStream x a).refLeft = s.refLeft ∧ (s.readStream x a).ripe = s.ripe ∧ (s.readStream x a).memory = s.memory ∧
    (s.readStream x a).freeCount = s.freeCount ∧ (s.readStream x a).pending = s.pending := by
  unfold State.readStream
  (repeat' split) <;> simp

@[simp] theorem State.readByte_fields (s : State) (a : Half) :
  (s.readByte a).host = s.host ∧ (s.readByte a).windows = s.windows ∧ (s.readByte a).engine = s.engine ∧
    (s.readByte a).gather = s.gather ∧ (s.readByte a).colour = s.colour ∧ (s.readByte a).mirror = s.mirror ∧
    (s.readByte a).link = s.link ∧ (s.readByte a).scan = s.scan ∧ (s.readByte a).faults = s.faults ∧
    (s.readByte a).refLeft = s.refLeft ∧ (s.readByte a).ripe = s.ripe ∧ (s.readByte a).memory = s.memory ∧
    (s.readByte a).freeCount = s.freeCount ∧ (s.readByte a).pending = s.pending := by
  unfold State.readByte
  dsimp only
  split <;> simp

@[simp] theorem State.endTxn_fields (s : State) :
  (s.endTxn).host = s.host ∧ (s.endTxn).windows = s.windows ∧ (s.endTxn).engine = s.engine ∧
    (s.endTxn).gather = s.gather ∧ (s.endTxn).colour = s.colour ∧ (s.endTxn).mirror = s.mirror ∧
    (s.endTxn).link = s.link ∧ (s.endTxn).scan = s.scan ∧ (s.endTxn).faults = s.faults ∧
    (s.endTxn).refLeft = s.refLeft ∧ (s.endTxn).ripe = s.ripe ∧ (s.endTxn).memory = s.memory ∧
    (s.endTxn).freeCount = s.freeCount ∧ (s.endTxn).pending = s.pending := by
  simp [State.endTxn]

@[simp] theorem State.beginKind_fields (s : State) (k : Byte) :
  (s.beginKind k).host = s.host ∧ (s.beginKind k).windows = s.windows ∧ (s.beginKind k).engine = s.engine ∧
    (s.beginKind k).gather = s.gather ∧ (s.beginKind k).colour = s.colour ∧ (s.beginKind k).mirror = s.mirror ∧
    (s.beginKind k).link = s.link ∧ (s.beginKind k).scan = s.scan ∧ (s.beginKind k).faults = s.faults ∧
    (s.beginKind k).refLeft = s.refLeft ∧ (s.beginKind k).ripe = s.ripe ∧ (s.beginKind k).memory = s.memory ∧
    (s.beginKind k).freeCount = s.freeCount ∧ (s.beginKind k).pending = s.pending := by
  unfold State.beginKind
  split <;> simp

/-! ### What is enough for a law to be kept by every step -/

/-- A property that every event keeps, taken by itself. -/
structure KeptByEvents (P : State → Prop) : Prop where
  queue : ∀ s q, P s → P (s.dequeued q)
  deviceReset : ∀ s, P s → P s.deviceReset
  present : ∀ s r, P s → P (s.presentRequest r)
  request : ∀ s t, P s → s.requestEvent = some t → P t
  beat : ∀ s t, P s → s.beatEvent = some t → P t
  retry : ∀ s t, P s → s.retryEvent = some t → P t
  run : ∀ s t, P s → s.runIssueEvent = some t → P t
  response : ∀ s t, P s → s.responseEvent = some t → P t
  grant : ∀ s t, P s → s.grantEvent = some t → P t
  reply : ∀ s r, P s → P (s.respondMemory r)
  timeout : ∀ s t, P s → s.timeoutEvent = some t → P t
  idle : ∀ s l t, P s → s.idleEvent l = some t → P t
  mirrorWait : ∀ s l t, P s → s.mirrorWaitEvent l = some t → P t
  flushPresent : ∀ s t, P s → s.presentEvent = some t → P t
  halted : ∀ s t, P s → s.haltedEvent = some t → P t
  drain : ∀ s w t, P s → s.drainEvent w = some t → P t
  release2 : ∀ s t, P s → s.release2Event = some t → P t
  fillAnnounce : ∀ s t, P s → s.fillAnnounceEvent = some t → P t
  fillPhase2 : ∀ s t, P s → s.fillPhase2Event = some t → P t
  start : ∀ s t, P s → s.startEvent = some t → P t
  sent : ∀ s t, P s → s.sentEvent = some t → P t
  resync : ∀ s t, P s → s.resyncEvent = some t → P t
  credit : ∀ s, P s → P s.credit
  stall : ∀ s t, P s → s.stallEvent = some t → P t
  quiet : ∀ s w t, P s → s.quietEvent w = some t → P t
  scanStart : ∀ s t, P s → s.scanStartEvent = some t → P t
  scanReading : ∀ s t, P s → s.scanReadingEvent = some t → P t
  flushAll : ∀ s t, P s → s.flushAllEvent = some t → P t
  softReset : ∀ s t, P s → s.softResetEvent = some t → P t
  action : ∀ s c v, P s → P (s.actionCommand c v)
  write : ∀ s a v, P s → P (s.writeByte a v)
  read : ∀ s a, P s → P (s.readByte a)
  kind : ∀ s k, P s → P (s.beginKind k)
  txnEnd : ∀ s, P s → P s.endTxn
  refclk : ∀ s, P s → P s.refclk

variable {P : State → Prop}

theorem KeptByEvents.consequence (h : KeptByEvents P) (s t : State) (hs : P s) (ht : s.consequence = some t) : P t := by
  rcases consequence_cases ht with ⟨l, k⟩ | k | k | k | k | k | k | k | k | k | ⟨w, k⟩ | k | k | k
  · exact h.mirrorWait s l t hs k
  · exact h.flushPresent s t hs k
  · exact h.fillAnnounce s t hs k
  · exact h.fillPhase2 s t hs k
  · exact h.scanReading s t hs k
  · exact h.run s t hs k
  · exact h.halted s t hs k
  · exact h.flushAll s t hs k
  · exact h.softReset s t hs k
  · exact h.retry s t hs k
  · exact h.drain s w t hs k
  · exact h.release2 s t hs k
  · exact h.response s t hs k
  · exact h.scanStart s t hs k

theorem KeptByEvents.settle (h : KeptByEvents P) (s : State) (hs : P s) : P s.settle :=
  settle_induction P h.consequence s hs

/-- The next state of an event whose condition may not hold. -/
theorem eventOutcome_next {s t : State} {e : Option State} (h : eventOutcome s e = .next t) :
    t = s ∨ ∃ u, e = some u ∧ t = u.settle := by
  unfold eventOutcome at h
  cases e with
  | none => simp at h; exact Or.inl h.symm
  | some u => simp at h; exact Or.inr ⟨u, rfl, h.symm⟩

theorem KeptByEvents.event (h : KeptByEvents P) {s t : State} {e : Option State} (hs : P s) (he : ∀ u, e = some u → P u)
    (ht : eventOutcome s e = .next t) : P t := by
  rcases eventOutcome_next ht with rfl | ⟨u, hu, rfl⟩
  · exact hs
  · exact h.settle u (he u hu)

/-- A property that every event keeps is kept by every command. -/
theorem KeptByEvents.exec (h : KeptByEvents P) (c : Instr) (s t : State) (hs : P s) (ht : exec c s = .next t) : P t := by
  cases c <;> simp only [Sys2Proof.Machine.exec] at ht
  case deviceReset => cases ht; exact h.deviceReset s hs
  case hostRequest r => cases ht; exact h.settle _ (h.present s r hs)
  case requestHandling => exact h.event hs (h.request s · hs) ht
  case beatHandle => exact h.event hs (h.beat s · hs) ht
  case placementRetry => exact h.event hs (h.retry s · hs) ht
  case runIssue => exact h.event hs (h.run s · hs) ht
  case hostResponse => exact h.event hs (h.response s · hs) ht
  case issueGrant => exact h.event hs (h.grant s · hs) ht
  case memoryResponse r => cases ht; exact h.settle _ (h.reply s r hs)
  case memoryTimeout => exact h.event hs (h.timeout s · hs) ht
  case idleExpiry l => exact h.event hs (h.idle s l · hs) ht
  case mirrorWaitSatisfied l => exact h.event hs (h.mirrorWait s l · hs) ht
  case drainComplete w => exact h.event hs (h.drain s w · hs) ht
  case releasePhase2 => exact h.event hs (h.release2 s · hs) ht
  case fillAnnounce => exact h.event hs (h.fillAnnounce s · hs) ht
  case fillPhase2 => exact h.event hs (h.fillPhase2 s · hs) ht
  case transmissionStart => exact h.event hs (h.start s · hs) ht
  case messageSent => exact h.event hs (h.sent s · hs) ht
  case resyncEnqueue => exact h.event hs (h.resync s · hs) ht
  case creditEvent => cases ht; exact h.settle _ (h.credit s hs)
  case stallExpiry => exact h.event hs (h.stall s · hs) ht
  case quietExpiry w => exact h.event hs (h.quiet s w · hs) ht
  case scanStart => exact h.event hs (h.scanStart s · hs) ht
  case scanReading => exact h.event hs (h.scanReading s · hs) ht
  case flushAllComplete => exact h.event hs (h.flushAll s · hs) ht
  case softResetComplete => exact h.event hs (h.softReset s · hs) ht
  case arm v => cases ht; exact h.settle _ (h.action s 1 v hs)
  case disarm v => cases ht; exact h.settle _ (h.action s 2 v hs)
  case scan v => cases ht; exact h.settle _ (h.action s 3 v hs)
  case flushAll v => cases ht; exact h.settle _ (h.action s 4 v hs)
  case mirrorAttach v => cases ht; exact h.settle _ (h.action s 5 v hs)
  case mirrorDetach v => cases ht; exact h.settle _ (h.action s 6 v hs)
  case recount v => cases ht; exact h.settle _ (h.action s 7 v hs)
  case faultPop v => cases ht; exact h.settle _ (h.action s 8 v hs)
  case resultPop v => cases ht; exact h.settle _ (h.action s 9 v hs)
  case softReset v => cases ht; exact h.settle _ (h.action s 10 v hs)
  case windowFieldCommit w f v => cases ht; exact h.settle _ (h.write s _ v hs)
  case entryCommit e v => cases ht; exact h.settle _ (h.write s _ v hs)
  case globalWrite k v => cases ht; exact h.settle _ (h.write s _ v hs)
  case registerWrite a v => cases ht; exact h.settle _ (h.write s a v hs)
  case readCapture a => cases ht; exact h.read s a hs
  case voidTransaction k => cases ht; exact h.kind s k hs
  case transactionEnd => cases ht; exact h.txnEnd s hs
  case boundary a => cases ht; exact h.read s a hs

/-- A property that every event keeps is kept where no command waits. -/
theorem KeptByEvents.idleStep (h : KeptByEvents P) (s : State) (hs : P s) : P s.idleStep := by
  unfold State.idleStep
  split
  · next t ht =>
    apply h.settle
    simp only [State.ownEvent, State.expiryEvent, Option.orElse_eq_orElse, Option.orElse_eq_or, Option.or_eq_some_iff] at ht
    rcases ht with k | ⟨-, (k | ⟨-, (k | ⟨-, (k | ⟨-, k⟩)⟩)⟩) | ⟨-, (k | ⟨-, (k | ⟨-, (k | ⟨-, (k | ⟨-, k⟩)⟩)⟩)⟩)⟩⟩
    · exact h.consequence s t hs k
    · exact h.timeout s t hs k
    · exact h.stall s t hs k
    · obtain ⟨l, -, hl⟩ := List.exists_of_findSome?_eq_some k
      exact h.idle s l t hs hl
    · obtain ⟨w, -, hw⟩ := List.exists_of_findSome?_eq_some k
      exact h.quiet s w t hs hw
    · exact h.request s t hs k
    · exact h.beat s t hs k
    · exact h.grant s t hs k
    · exact h.start s t hs k
    · exact h.resync s t hs k
  · exact h.refclk s hs

/-- A property that every event keeps is kept by every step. -/
theorem KeptByEvents.step (h : KeptByEvents P) (s t : State) (hs : P s) (ht : Machine.step s = .next t) : P t := by
  unfold Machine.step at ht
  split at ht
  · cases ht; exact h.idleStep s hs
  · exact h.exec _ _ t (h.queue s _ hs) ht

end Sys2Proof.Machine
end

