-- ==== Sys2Proof/Tests/Slice0.lean ====
section
/-! SUPPORT. The row's own tests: well-formedness, worked values of the spec, one small step per group of commands, and a
concrete state that meets the hypotheses of each statement. -/

-- One declaration at a time: the package as one text has many proofs, and a thread for each would not fit the memory limit.
set_option Elab.async false

open Sys2Proof Sys2Proof.Machine

namespace Sys2Proof.Tests

/-! ### Small states -/

/-- A window of 16 pixels at host 1000h and memory 2000h. -/
def window (format tableMode : Byte) (st : WindowState) : Window :=
  { Window.initial with hbase := 0x1000, mbase := 0x2000, pixels := 16, format := format, tableMode := tableMode, state := st }

/-- After reset, with W0 as given. -/
def withW0 (format tableMode : Byte) (st : WindowState) : State := State.reset.setWin 0 (window format tableMode st)

/-- A P16 window W0 in a state. -/
def p16 (st : WindowState) : State := withW0 1 0 st

/-- An adaptive I8 window W0 in a state. -/
def i8 (st : WindowState) : State := withW0 3 1 st

/-- The state with its mirror link attached. -/
def attached (s : State) : State := { s with mirror := { s.mirror with link := .attached } }

/-- One host request at the head, its handling begun. -/
def handling (s : State) (r : HostRequest) (a : Activity) : State :=
  { s with
    host :=
      { s.host with
        queue := [r], handling := some { next := 0, results := List.replicate r.beats .todo, activity := a, reads := [] } } }

/-- The handling that `handling` begins. -/
def begun (r : HostRequest) (a : Activity) : Handling :=
  { next := 0, results := List.replicate r.beats .todo, activity := a, reads := [] }

/-- A whole-word write beat. -/
def pixel (d : Word32) : WriteBeat := { data := d, strobes := 15 }

/-- The held beat of W0's pixel 0. -/
def held (d : Word32) (w : HeldWait) : HeldBeat :=
  { beat := 0, window := 0, group := 0, slot := 0, word := d, retry := false, wait := w }

/-- A line of W0's group 0 in a state, with slot 0 occupied. -/
def line (st : LineState) (ph : Option Phase) (k : Option FlushKind) (v : Stored) : Line :=
  { Line.blank with state := st, phase := ph, kind := k, cause := some .idle, slots := Line.blank.slots.set 0 (some v) }

/-- G0 holds a line, and the lists agree. -/
def withLine (s : State) (x : Line) : State :=
  { s with
    gather :=
      { s.gather with
        lines := s.gather.lines.set 0 x
        age := if x.state = .gathering then [0] else []
        order := if x.state = .flushing then [0] else [] } }

/-- The outstanding list is as given. -/
def outstanding (s : State) (os : List Outstanding) : State := { s with link := { s.link with outstanding := os } }

/-- A read of one word for a requester. -/
def readOf (b : Requester) (age : Nat) : Outstanding :=
  { req := { write := false, addr := 0x2000, words := 1, data := 0, mask := 0 }, by' := b, age := age }

/-- A write of one word for a requester, with a mask. -/
def writeOf (b : Requester) (mask : BlockMask) : Outstanding :=
  { req := { write := true, addr := 0x2000, words := 1, data := 0x0102, mask := mask }, by' := b, age := 0 }

/-- An open write stream at an address of a region. -/
def stream (r : Region) (a : Half) (staged : List (Half × Byte)) : Transaction :=
  .data { write := true, region := some r, next := a, ended := false, staged := staged, capture := none }

/-- The state with a transaction. -/
def withTxn (s : State) (x : Transaction) : State := { s with port := { s.port with txn := x } }

/-- The state with what SDO has carried. -/
def withSdo (s : State) (o : List Byte) : State := { s with out := { s.out with sdo := some o } }

/-- A message with a number. -/
def message (k : MessageKind) (n : Half) : Message := { kind := k, seq := n, entry := 0, colour := Colour.black }

/-- A queue of messages, one of them in transmission where `sending` holds. -/
def queued (s : State) (q : List Message) (sending : Bool) : State :=
  { s with
    mirror := { s.mirror with queue := q, sending := sending, credits := 1, enqueued := BitVec.ofNat 16 q.length } }

/-- What a step answers, none where it stops. -/
def after (c : Instr) (s : State) : Option State :=
  match exec c s with
  | .next t => some t
  | _ => none

/-- A number of commands, one after the other. -/
def run (cs : List Instr) (s : State) : Option State := cs.foldlM (fun t c => after c t) s

/-! ### Well-formedness -/

theorem test_wellFormed_no_beats : (Instr.hostRequest (.read 0 0)).wellFormed = false := by decide

theorem test_wellFormed_seventeen_beats : (Instr.hostRequest (.write 0 (List.replicate 17 (pixel 0)))).wellFormed = false := by
  decide

theorem test_wellFormed_sixteen_beats : (Instr.hostRequest (.read 0 16)).wellFormed = true := by decide

theorem test_wellFormed_nine_words : (Instr.memoryResponse (.ok (List.replicate 9 0))).wellFormed = false := by decide

theorem test_wellFormed_write_kind : (Instr.voidTransaction 0x3A).wellFormed = false := by decide

theorem test_wellFormed_read_kind : (Instr.voidTransaction 0x3B).wellFormed = false := by decide

theorem test_wellFormed_void_kind : (Instr.voidTransaction 0x00).wellFormed = true := by decide

/-! ### Worked values of the spec -/

/-- The check value of the CRC (R141): the nine bytes 31h to 39h give CBF43926h. -/
theorem test_crc_check :
    ~~~(([0x31, 0x32, 0x33, 0x34, 0x35, 0x36, 0x37, 0x38, 0x39] : List Byte).foldl crcByte crcStart) = 0xCBF43926 := by
  decide +kernel

/-- R8: v from 252 to 255 reaches 32 and is stored as 31, and 254 reaches 64 and is stored as 63. -/
theorem test_round_limits : narrow true 5 251 = 31 ∧ narrow true 5 252 = 31 ∧ narrow true 6 253 = 63 ∧ narrow true 6 254 = 63 ∧
    narrow false 5 255 = 31 ∧ narrow true 5 4 = 1 ∧ narrow true 5 3 = 0 := by decide

/-- R12: the largest stored value widens to 255, and R11: to 248 and 252. -/
theorem test_widen_top : widen true 5 31 = 255 ∧ widen true 6 63 = 255 ∧ widen false 5 31 = 248 ∧ widen false 6 63 = 252 := by
  decide

/-- Every setting, field and entry has the address of Tables 11-5, 11-7 and 11-8. -/
theorem test_commit_addresses : commitAddr 0 .hbase = 0x0103 ∧ commitAddr 7 .quiet = 0x01F4 ∧ commitAddr 1 .pixels = 0x012A ∧
    entryAddr 255 + 3 = 0x07FF := by decide

/-- The bytes of a window record fill its 25 mapped bytes, in the order of Table 11-7. -/
theorem test_window_bytes : (window 4 1 .armed).bytes = [0, 0x10, 0, 0, 0, 0x20, 0, 0, 16, 0, 0, 4, 0, 0, 0, 1, 0, 0, 0, 0, 0, 2, 0,
    0, 0, 0] := by decide

/-- The message of Section 5.8 numbered 501, RESYNC_BEGIN, is sent as these bytes (Table 11-4). -/
theorem test_message_bytes : (message .resyncBegin 501).bytes = [0x02, 0x01, 0xF5, 0, 0, 0, 0] := by decide

/-! ### Small runs of commands -/

/-- From reset: a byte of GLOBAL and its read, in two transactions (R166). -/
theorem test_setting_reads_back :
    (run [.globalWrite .gatherIdle 7, .transactionEnd, .readCapture 0x0011] State.reset).map (·.out.sdo) =
      some (some [0, 0, 0, 0, 7]) := by
  decide +kernel

/-- SDO of a write: 00h in its three first bytes and in every data byte, and undriven after its end (R159). -/
theorem test_sdo_of_a_write :
    (run [.registerWrite 0x0100 1, .registerWrite 0x0101 2] State.reset).map (·.out.sdo) = some (some [0, 0, 0, 0, 0]) ∧
      (run [.registerWrite 0x0100 1, .transactionEnd] State.reset).map (·.out.sdo) = some none ∧ State.reset.out.sdo = none := by
  decide +kernel

/-- SDO of a void transaction: 00h from its first byte on (R159). -/
theorem test_sdo_of_a_void_transaction :
    (run [.voidTransaction 0x39, .registerWrite 0x0010 1] State.reset).map (fun t => (t.out.sdo, t.port.settings.prescale)) =
      some (some [0, 0], 24) := by
  decide +kernel

/-- Table 11-10: the host fault causes, and the code of an ALIGN response (R182). -/
theorem test_host_fault_codes :
    [HostFault.align, .partialStrobes, .notReady, .guard, .noEntry, .exhausted, .memory, .reset].map hostFaultCode =
      [1, 2, 3, 4, 5, 6, 7, 8] ∧ (faultResponse (.read 0 1) .align).code = some 1 := by
  decide

/-- The four bytes of hbase, committed at the last, while OFF (R19, R163). -/
theorem test_window_field_written :
    (run [.registerWrite 0x0100 0, .registerWrite 0x0101 0x10, .registerWrite 0x0102 0, .windowFieldCommit 0 .hbase 0]
      State.reset).map (fun t => (t.win 0).hbase) = some 0x1000 := by
  decide +kernel

/-- A colour staged and committed with its flags byte pins the entry (R92, R93, R94). -/
theorem test_entry_written :
    (run [.registerWrite 0x0404 9, .registerWrite 0x0405 8, .registerWrite 0x0406 7, .entryCommit 1 1] State.reset).map
      (fun t => t.entry 1) = some { colour := { r := 9, g := 8, b := 7 }, pinned := true, count := 0 } := by
  decide +kernel

/-- A byte of the ID region is read-only, and an unmapped start address is refused once (R162, R161). -/
theorem test_refusals :
    (run [.registerWrite 0x0000 1, .transactionEnd, .registerWrite 0x0200 1, .registerWrite 0x0201 1] State.reset).map
      (fun t => t.port.refusal) = some { reason := some .unmapped, addr := 0x0200, count := 2 } := by
  decide +kernel

/-- A pixel write of white and a read of it before any flush: the read is forwarded (R46, R69). -/
theorem test_write_then_read :
    (run [.hostRequest (.write 0x1000 [pixel 0x00FFFFFF]), .requestHandling, .beatHandle, .hostRequest (.read 0x1000 1),
      .requestHandling, .beatHandle] (p16 .armed)).map (·.out.responses) =
      some [{ cause := none, data := [] }, { cause := none, data := [0x00F8FCF8] }] := by
  decide +kernel

/-- A request across a 4 KiB block is answered ALIGN (R149). -/
theorem test_align :
    (run [.hostRequest (.read 0x0FFC 2), .requestHandling] State.reset).map (·.out.responses) =
      some [{ cause := some .align, data := [0, 0] }] := by
  decide +kernel

/-- A passthrough write is posted, and its bytes are in memory after its OK response (R153, R156, R121). -/
theorem test_posted_write :
    (run [.hostRequest (.write 0x0100 [{ data := 0x44332211, strobes := 5 }]), .requestHandling, .beatHandle, .issueGrant,
      .memoryResponse (.ok [])] State.reset).map (fun t => (t.memory, t.out.responses)) =
      some ([(0x0100, 0x11), (0x0102, 0x33)], [{ cause := none, data := [] }]) := by
  decide +kernel

/-- A passthrough read returns the beat of the words that its response carries (R156, R157). -/
theorem test_passthrough_read :
    (run [.hostRequest (.read 0x0104 1), .requestHandling, .beatHandle, .issueGrant,
      .memoryResponse (.ok [0x1122334455667788])] State.reset).map (·.out.responses) =
      some [{ cause := none, data := [0x11223344] }] := by
  decide +kernel

/-- Four pixels complete a P16 group: its FULL flush writes all eight bytes (R50, R61, R64, R66). -/
theorem test_full_flush :
    (run [.hostRequest (.write 0x1000 [pixel 0xFF, pixel 0xFF00, pixel 0xFF0000, pixel 0]), .requestHandling, .beatHandle,
      .beatHandle, .beatHandle, .beatHandle, .issueGrant, .memoryResponse (.ok [])] (p16 .armed)).map
      (fun t => (t.memory.map Prod.snd, (t.line 0).state)) = some ([0x1F, 0, 0xE0, 0x07, 0, 0xF8, 0, 0], .free) := by
  decide +kernel

/-- An ARM of an adaptive window while DETACHED fills its memory and arms it (R28 to R31). -/
theorem test_arm_fills :
    (run [.arm 0, .issueGrant, .memoryResponse (.ok [])] (i8 .off)).map
      (fun t => ((t.win 0).state, (t.entry 0).count, t.memory.length, t.engine)) = some (.armed, 16, 16, .idle) := by
  decide +kernel

/-- A DISARM of it reads the memory back and takes the counts out (R36 to R38). -/
theorem test_disarm_releases :
    (run [.arm 0, .issueGrant, .memoryResponse (.ok []), .disarm 0, .issueGrant, .memoryResponse (.ok [])] (i8 .off)).map
      (fun t => ((t.win 0).state, (t.entry 0).count, t.colour.suspect)) = some (.off, 0, false) := by
  decide +kernel

/-- A response with nothing outstanding is stray, and FAULT_POP removes its record (R131, R177). -/
theorem test_stray_and_pop :
    (run [.memoryResponse .error, .faultPop 0] State.reset).map (·.faults) = some { records := [], overflow := false } := by
  decide +kernel

/-- A soft reset with nothing outstanding ends in its own event (R170, R172). -/
theorem test_soft_reset :
    (run [.softReset 0] (p16 .armed)).map (fun t => ((t.win 0).state, t.port.action.running, t.host.taking)) =
      some (.off, none, true) := by
  decide +kernel

/-- MIRROR_ATTACH, a credit and the transmission of RESYNC_BEGIN (R104, R105, R108). -/
theorem test_attach :
    (run [.mirrorAttach 0, .creditEvent, .transmissionStart, .messageSent] State.reset).map
      (fun t => (t.out.messages, t.mirror.sent, t.mirror.credits)) =
      some ([{ kind := .resyncBegin, seq := 1, entry := 0, colour := Colour.black }], 1, 0) := by
  decide +kernel

/-- What MDAT carries: the seven bytes of RESYNC_BEGIN numbered 501, and then those of an ENTRY message (R102, Section 5.8, Table 11-4). -/
theorem test_mdat :
    let begins : Message := { kind := .resyncBegin, seq := 501, entry := 0, colour := Colour.black }
    let entry : Message := { kind := .entry, seq := 0x1234, entry := 0x56, colour := { r := 0x78, g := 0x9A, b := 0xBC } }
    Outputs.mdat { State.reset.out with messages := [begins, entry] } =
      [0x02, 0x01, 0xF5, 0, 0, 0, 0, 0x01, 0x12, 0x34, 0x56, 0x78, 0x9A, 0xBC] := by
  decide

/-- A device reset with nothing outstanding leaves memory as it is (R174; log entry 6). -/
theorem test_device_reset_memory :
    (after .deviceReset { State.reset with memory := [(3, 4)] }).map (·.memory) = some [(3, 4)] := by
  decide +kernel

/-- A command whose condition does not hold changes nothing (log entry 1). -/
theorem test_no_event : after .beatHandle State.reset = some State.reset ∧ after .scanStart State.reset = some State.reset := by
  decide +kernel

/-- A setting written after the tick that a timer expired at has no part in that expiry (R166; log entry 21). -/
theorem test_setting_after_the_tick :
    let s := State.ripen (withLine (p16 .armed) { line .gathering none none (.rgb16 1 2 3) with idle := 16 })
    (run [.globalWrite .gatherIdle 0] s).map (fun t => t.idleDue 0) = some true ∧
      (run [.globalWrite .gatherIdle 0, .idleExpiry 0] s).map (fun t => (t.line 0).state) = some .flushing := by
  decide +kernel

/-- An idle bridge lets a REFCLK period pass (log entry 3). -/
theorem test_idle_step :
    (match step State.reset with | .next t => some t | _ => none) = some { State.reset with refLeft := 24 } := by
  decide +kernel

/-! ### Witnesses: a state and operands that meet the hypotheses of each statement together, each clause at its boundary -/

theorem witness_SettleTakesConsequences :
    State.reset.consequence = none ∧ State.consequenceRows State.reset ≠ [] ∧
      (State.consequence { State.reset with
        port := { State.reset.port with action := { State.reset.port.action with running := some (.flushAll []) } } }).isSome = true := by
  decide +kernel

theorem witness_EmptyQueueCountsTime :
    (State.reset.pending = [] ∧ State.reset.ownEvent = none ∧ 1 < State.reset.refLeft) ∧
      ∃ s : State, s.pending = [] ∧ s.ownEvent = none ∧ s.refLeft ≤ 1 ∧ (s.win 1).timer = .idle ∧ (s.win 0).timer = .timing 5 :=
  ⟨by decide +kernel, State.setWin { State.reset with refLeft := 1 } 0 { Window.initial with timer := .timing 5 }, by decide +kernel⟩

theorem witness_HostRequestsTakenAndChecked_taking :
    (State.reset.host.taking = true ∧ State.reset.host.queue.length < 4 ∧ State.reset.host.waiting = []) ∧
      (∃ s : State, s.host.taking = false) ∧ ∃ s : State, s.host.taking = true ∧ 4 ≤ s.host.queue.length :=
  ⟨by decide, ⟨{ State.reset with host := { State.reset.host with taking := false } }, by decide⟩,
    { State.reset with host := { State.reset.host with queue := List.replicate 4 (.read 0 1) } }, by decide⟩

theorem witness_HostRequestsTakenAndChecked_checking :
    (∃ s : State, s.host.handling = none ∧ s.host.queue = [.read 0x0FFC 1] ∧ 0x0FFC % 4 = 0 ∧
      0x0FFC / 4096 = (0x0FFC + 4 * (1 - 1)) / 4096) ∧
      (∃ s : State, s.host.handling = none ∧ s.host.queue = [.read 0x0FFC 2] ∧ ¬0x0FFC / 4096 = (0x0FFC + 4 * (2 - 1)) / 4096) ∧
      ∃ s : State, s.host.handling = none ∧ s.host.queue = [.read 2 1] ∧ ¬2 % 4 = 0 :=
  ⟨⟨{ State.reset with host := { State.reset.host with queue := [.read 0x0FFC 1] } }, by decide⟩,
    ⟨{ State.reset with host := { State.reset.host with queue := [.read 0x0FFC 2] } }, by decide⟩,
    { State.reset with host := { State.reset.host with queue := [.read 2 1] } }, by decide⟩

/-- A request is at its first beat in this state. -/
def atBeat (s : State) (r : HostRequest) : Prop := ∃ h, s.readyFor h r

theorem atBeat_handling (s : State) (r : HostRequest) (h : 0 < r.beats) : atBeat (handling s r .ready) r :=
  ⟨_, rfl, rfl, rfl, by simpa using h⟩

theorem witness_BeatsAndResponses_beats :
    (atBeat (handling (p16 .draining) (.read 0x103C 1) .ready) (.read 0x103C 1) ∧
      (handling (p16 .draining) (.read 0x103C 1) .ready).windowAt 0x103C = some 0 ∧
      ((handling (p16 .draining) (.read 0x103C 1) .ready).win 0).state ≠ .armed) ∧
      (atBeat (handling (p16 .armed) (.write 0x1000 [{ data := 0, strobes := 0 }]) .ready) (.write 0x1000 [{ data := 0, strobes := 0 }]) ∧
        (handling (p16 .armed) (.write 0x1000 [{ data := 0, strobes := 0 }]) .ready).windowAt 0x1000 = some 0) ∧
      atBeat (handling (p16 .armed) (.write 0x1000 [{ data := 0, strobes := 14 }]) .ready) (.write 0x1000 [{ data := 0, strobes := 14 }]) ∧
      (handling (p16 .armed) (.write 0x1000 [{ data := 0, strobes := 14 }]) .ready).windowAt 0x1000 = some 0 :=
  ⟨⟨atBeat_handling _ _ (by decide), by decide +kernel⟩, ⟨atBeat_handling _ _ (by decide), by decide +kernel⟩,
    atBeat_handling _ _ (by decide), by decide +kernel⟩

/-- W0's beat `b` is held by ingress in this state. -/
def placing (s : State) (b : HeldBeat) : State := handling s (.write 0x1000 [pixel b.word]) (.placing b)

/-- An attempt for `b` begins in this state and finds line l as `ln`. -/
def fits (s : State) (b : HeldBeat) (l : LineId) (ln : Line) : Prop :=
  ∃ h, s.attemptsBeat .placementRetry h b ∧ s.targets b l ln

theorem attempts_placing (s : State) (b : HeldBeat) (h : (placing s b).retryReady b = true) :
    ∃ x, (placing s b).attemptsBeat .placementRetry x b := ⟨begun _ _, rfl, .inl ⟨rfl, rfl, h⟩⟩

theorem fits_placing (s : State) (b : HeldBeat) (l : LineId) (ln : Line)
    (h : (placing s b).retryReady b = true ∧ (placing s b).targets b l ln) :
    fits (placing s b) b l ln := ⟨begun _ _, ⟨rfl, .inl ⟨rfl, rfl, h.1⟩⟩, h.2⟩

/-- W0's group 0, allocated. -/
def fresh : Line := { Line.blank with state := .gathering }

theorem witness_PixelWriteTakesFreeLine_retry :
    let b := held 0x00FFFFFF .anyLine
    let s := placing (p16 .armed) b
    (∃ h, s.attemptsBeat .placementRetry h b) ∧ (s.win 0).state = .armed ∧ (s.win 0).encode b.word = some (.rgb16 31 63 31) ∧ s.findLine 0 0 = none ∧
      s.freeLineId = some 0 :=
  ⟨attempts_placing _ _ (by decide +kernel), by decide +kernel⟩

theorem witness_PixelWriteTakesFreeLine_handle :
    let r : HostRequest := .write 0x1000 [pixel 0x00FFFFFF]
    let s := handling (p16 .armed) r .ready
    (∃ h, s.attemptsBeat .beatHandle h (held 0x00FFFFFF .anyLine)) ∧ s.findLine 0 0 = none ∧ s.freeLineId = some 0 :=
  ⟨⟨begun _ _, rfl, .inr ⟨rfl, _, ⟨rfl, rfl, rfl, by decide⟩, rfl, rfl, by decide +kernel, by decide +kernel, by decide +kernel⟩⟩,
    by decide +kernel⟩

/-- W0's group 0 with its first n slots occupied, gathering. -/
def filled (n : Nat) (v : Stored) : Line :=
  { Line.blank with state := .gathering, slots := Vector.ofFn (fun i => if i.val < n then some v else none) }

theorem witness_PixelWriteFillsSlot_channel :
    let b := held 0 .anyLine
    let ln := { filled 4 (.rgb16 1 2 3) with slots := (filled 4 (.rgb16 1 2 3)).slots.set 0 none }
    fits (placing (p16 .armed) b) b 0 fresh ∧ fits (placing (withLine (p16 .armed) ln) b) b 0 ln ∧
      fits (placing (withLine (p16 .draining) (filled 2 (.rgb16 1 2 3))) b) b 0 (filled 2 (.rgb16 1 2 3)) ∧
      ((p16 .armed).win 0).encode b.word = some (.rgb16 0 0 0) ∧
      Line.isFull { ln with slots := ln.slots.set b.slot (some (.rgb16 0 0 0)) } ((p16 .armed).win 0) ∧
      ¬Line.isFull { fresh with slots := fresh.slots.set b.slot (some (.rgb16 0 0 0)) } ((p16 .armed).win 0) :=
  ⟨fits_placing _ _ _ _ (by decide +kernel), fits_placing _ _ _ _ (by decide +kernel), fits_placing _ _ _ _ (by decide +kernel),
    by decide +kernel⟩

theorem witness_PixelWriteFillsSlot_indexed :
    let b := held 0 .anyLine
    let s := { i8 .armed with colour := (i8 .armed).colour.addCount 0 1 }
    let old := filled 1 (.index8 4)
    fits (placing s b) b 0 fresh ∧ fits (placing (withLine s old) b) b 0 old ∧ (s.win 0).encode b.word = none ∧
      s.colour.lookup (s.win 0) (pixelColour b.word) = .found 0 ∧ fresh.slots[b.slot] = none ∧
      old.slots[b.slot] = some (.index8 4) ∧ (s.win 0).entryOf (.index8 4) ≠ (s.win 0).entryOf (.index8 0) :=
  ⟨fits_placing _ _ _ _ (by decide +kernel), fits_placing _ _ _ _ (by decide +kernel), by decide +kernel⟩

/-- The hypotheses of PixelWriteAllocates on the entries hold in this state, for W0's whole range and entry 0. -/
def allocates (s : State) : Prop :=
  (s.win 0).adaptive = true ∧ (∀ x, (s.entry x).isFree = true) ∧ (s.win 0).inRange 0 = true

theorem witness_PixelWriteAllocates :
    let b := held 9 .anyLine
    let full := queued (attached (i8 .armed)) (List.replicate 15 (message .entry 1)) false
    fits (placing (i8 .armed) b) b 0 fresh ∧ allocates (i8 .armed) ∧ (i8 .armed).mirror.link = .detached ∧
      fits (placing full b) b 0 fresh ∧ allocates full ∧ full.mirror.link ≠ .detached ∧ full.colour.held = [] ∧ full.mirror.level = 15 ∧
      (∃ s : State, fits s b 0 fresh ∧ allocates s ∧ s.mirror.link ≠ .detached ∧ s.mirror.reserve = true ∧ s.mirror.level = 16) ∧
      ∃ s : State, fits s b 0 (filled 1 (.index8 4)) ∧ 0 < (s.entry ((s.win 0).entryOf (.index8 4))).count :=
  ⟨fits_placing _ _ _ _ (by decide +kernel), by unfold allocates; decide +kernel, by decide,
    fits_placing _ _ _ _ (by decide +kernel), by unfold allocates; decide +kernel, by decide, by decide, by decide,
    ⟨placing { queued (attached (i8 .armed)) (List.replicate 15 (message .entry 1)) false with
        mirror := { (queued (attached (i8 .armed)) (List.replicate 15 (message .entry 1)) false).mirror with reserve := true } }
        (held 9 .anyLine),
      fits_placing _ _ _ _ (by decide +kernel), by unfold allocates; decide +kernel, by decide, by decide, by decide⟩,
    ⟨placing (withLine { i8 .armed with colour := (i8 .armed).colour.addCount 4 1 } (filled 1 (.index8 4))) (held 9 .anyLine),
      fits_placing _ _ _ _ (by decide +kernel), by decide +kernel⟩⟩

/-- An allocating slot write that completes its line, one that leaves it GATHERING, and one in a DRAINING window. -/
theorem witness_PixelWriteAllocates_flushes :
    let b := held 9 .anyLine
    let last := { filled 8 (.index8 4) with slots := (filled 8 (.index8 4)).slots.set 0 none }
    let counted (st : WindowState) : State := { i8 st with colour := (i8 st).colour.addCount 4 1 }
    let s := placing (withLine (counted .armed) last) b
    fits s b 0 last ∧ (s.win 0).state ≠ .draining ∧ last.slots[b.slot] = none ∧
      s.colour.lookup (s.win 0) (pixelColour b.word) = .allocate 0 ∧
      Line.isFull { last with slots := last.slots.set b.slot (some (.index8 0)) } (s.win 0) ∧
      ¬Line.isFull { fresh with slots := fresh.slots.set b.slot (some (.index8 0)) } (s.win 0) ∧
      fits (placing (counted .draining) b) b 0 fresh ∧ ((placing (counted .draining) b).win 0).state = .draining :=
  ⟨fits_placing _ _ _ _ (by decide +kernel), by decide +kernel, by decide +kernel, by decide +kernel, by decide +kernel,
    by decide +kernel, fits_placing _ _ _ _ (by decide +kernel), by decide +kernel⟩

/-- Every line in use, G0 for W0's group 0 and the others for other groups. -/
def noFreeLine (s : State) (st : LineState) : State :=
  { s with
    gather :=
      { s.gather with
        lines := Vector.ofFn (fun i => { Line.blank with state := st, group := i.val, phase := some .readWait, kind := some .merge })
        age := if st = .gathering then allLines else []
        order := if st = .flushing then allLines else [] } }

theorem witness_PixelWriteWaits_line :
    let b := held 0 .anyLine
    let away := { b with group := 9 }
    let s := withLine (p16 .armed) (line .flushing (some .readWait) (some .merge) (.rgb16 1 2 3))
    let full := noFreeLine (p16 .armed) .flushing
    let old := noFreeLine (p16 .armed) .gathering
    ((∃ h, (placing s b).attemptsBeat .placementRetry h b) ∧ (placing s b).gatherLaw ∧
      s.findLine 0 0 = some 0 ∧ (s.line 0).state = .flushing) ∧
      (full.gatherLaw ∧ full.findLine 0 9 = none ∧ full.freeLineId = none ∧ full.gather.age = []) ∧
      (old.gatherLaw ∧ old.findLine 0 9 = none ∧ old.freeLineId = none ∧ old.gather.age = 0 :: allLines.tail) ∧
      ∃ x : HeldBeat, (placing full x).retryReady x = true ∧ x.group = away.group ∧ (placing old x).retryReady x = true :=
  ⟨⟨attempts_placing _ _ (by decide +kernel), by decide +kernel⟩, by decide +kernel, by decide +kernel,
    { held 0 (.flushes []) with group := 9 }, by decide +kernel⟩

theorem witness_PixelWriteWaits_space :
    let b := held 9 .anyLine
    let s := queued (attached (i8 .armed)) (List.replicate 16 (message .entry 1)) false
    let u := { attached (i8 .armed) with colour := { (i8 .armed).colour with held := [3] } }
    fits (placing s b) b 0 fresh ∧ s.gatherLaw ∧ (s.win 0).encode b.word = none ∧
      s.colour.lookup (s.win 0) (pixelColour b.word) = .allocate 0 ∧ s.mirror.reserve = false ∧ s.mirror.link ≠ .detached ∧
      s.mirror.queue.length = 16 ∧ fits (placing u b) b 0 fresh ∧ u.colour.held ≠ [] :=
  ⟨fits_placing _ _ _ _ (by decide +kernel), by decide +kernel, by decide +kernel, by decide +kernel, by decide +kernel,
    by decide +kernel, by decide +kernel, fits_placing _ _ _ _ (by decide +kernel), by decide +kernel⟩

/-- Every entry is LIVE and holds black, and W0's policy is as given. -/
def exhausted (policy tableMode : Byte) : State :=
  let s := (i8 .armed).setWin 0 { window 3 tableMode .armed with policy := policy }
  { s with colour := { s.colour with entries := s.colour.entries.map (fun x => { x with count := 1 }) } }

theorem witness_PixelWriteWaits_claim :
    let b := held 9 .anyLine
    let s := withLine (exhausted 1 1) { filled 1 (.index8 4) with group := 7 }
    fits (placing s b) b 1 fresh ∧ s.gatherLaw ∧ s.colour.lookup (s.win 0) (pixelColour b.word) = .exhausted ∧ b.retry = false ∧
      (s.line 0).state = .gathering ∧ (s.win (s.line 0).window).rangesOverlap (s.win 0) = true :=
  ⟨fits_placing _ _ _ _ (by decide +kernel), by decide +kernel⟩

theorem witness_PixelWriteLooksUp_adaptive :
    let b := held 9 .anyLine
    let again := { held 9 (.flushes []) with retry := true }
    fits (placing (exhausted 0 1) (held 0 .anyLine)) (held 0 .anyLine) 0 fresh ∧ fits (placing (exhausted 0 1) b) b 0 fresh ∧
      fits (placing (exhausted 1 1) again) again 0 fresh ∧ ((exhausted 0 1).win 0).adaptive = true ∧
      ((exhausted 0 1).win 0).policy = 0 ∧ ((exhausted 1 1).win 0).policy = 1 ∧
      (∀ x, ((exhausted 0 1).entry x).isFree = false ∧ ((exhausted 0 1).entry x).colour ≠ pixelColour 9 ∧
        ((exhausted 0 1).entry x).colour = pixelColour 0) :=
  ⟨fits_placing _ _ _ _ (by decide +kernel), fits_placing _ _ _ _ (by decide +kernel), fits_placing _ _ _ _ (by decide +kernel),
    by decide +kernel⟩

theorem witness_PixelWriteLooksUp_fixed :
    let b := held 9 .anyLine
    let s := exhausted 0 0
    let u := { s with colour := s.colour.setEntry 255 { colour := pixelColour 8, pinned := true, count := 0 } }
    fits (placing s b) b 0 fresh ∧ fits (placing u b) b 0 fresh ∧ (s.win 0).format = 3 ∧ (s.win 0).tableMode = 0 ∧
      (∀ x, (s.entry x).pinned = false) ∧ (∀ x, (u.entry x).pinned = true ↔ x = 255) ∧ (u.win 0).inRange 255 = true :=
  ⟨fits_placing _ _ _ _ (by decide +kernel), fits_placing _ _ _ _ (by decide +kernel), by decide +kernel⟩

theorem witness_PixelWriteLooksUp_ranges :
    let x := { window 4 1 .armed with partition := 15 }
    x.format = 4 ∧ x.inRange 240 = true ∧ x.inRange 255 = true ∧ x.inRange 239 = false ∧ 255 / 16 = x.partition.toNat ∧
      x.partition.toNat ≤ 15 ∧ x.rangesOverlap (window 3 1 .armed) = true ∧ x.rangesOverlap { x with partition := 14 } = false := by
  decide +kernel

theorem witness_SlotWriteCounts :
    ((p16 .armed).win 0).adaptive = false ∧ ((i8 .armed).win 0).adaptive = true ∧
      ((i8 .armed).entry 5).count < 67108863 ∧ (((i8 .armed).line 0).target (held 0 .anyLine)).slots[(0 : SlotId)] = none ∧
      (∃ s : State, (s.win 0).adaptive = true ∧ ((s.line 0).target (held 0 .anyLine)).slots[(0 : SlotId)] = some (.index8 4) ∧
        0 < (s.entry 4).count) ∧
      (((i8 .armed).colour.addCount 4 67108863).entry 4).count = 67108863 ∧
      ((i8 .armed).colour.addCount 4 67108863).suspect = false ∧ ((i8 .armed).colour.addCount 4 67108864).suspect = true :=
  ⟨by decide +kernel, by decide +kernel, by decide +kernel, by decide +kernel,
    ⟨{ withLine (i8 .armed) (line .gathering none none (.index8 4)) with
      colour := (i8 .armed).colour.addCount 4 1 }, by decide +kernel⟩, by decide +kernel, by decide +kernel, by decide +kernel⟩

theorem witness_TranslatedReads :
    let r : HostRequest := .read 0x1000 1
    let s := handling (p16 .armed) r .ready
    let u := handling (withLine (p16 .armed) (line .gathering none none (.rgb16 1 2 3))) r .ready
    atBeat s r ∧ s.windowAt 0x1000 = some 0 ∧ (s.win 0).state = .armed ∧ s.forwarded 0 0 0 = none ∧
      s.host.handling.map (·.reads) = some [] ∧
      atBeat u r ∧ u.windowAt 0x1000 = some 0 ∧ (u.win 0).state = .armed ∧ u.forwarded 0 0 0 = some (.rgb16 1 2 3) :=
  ⟨atBeat_handling _ _ (by decide), by decide +kernel, by decide +kernel, by decide +kernel, by decide +kernel,
    atBeat_handling _ _ (by decide), by decide +kernel, by decide +kernel, by decide +kernel⟩

/-- A read of two pixels of W0's group 0 at its second beat, the group's read with a status. -/
def second (st : ReadStatus) : State :=
  { p16 .armed with
    host :=
      { (p16 .armed).host with
        queue := [.read 0x1000 2]
        handling := some
          { next := 1, results := [.awaiting 0, .todo], activity := .ready, reads := [{ id := 0, window := 0, group := 0, status := st }] } } }

theorem witness_TranslatedReads_later :
    (∀ st, ∃ h, (second st).readyFor h (.read 0x1000 2) ∧ h.next = 1 ∧
      h.reads = [] ++ { id := 0, window := 0, group := 0, status := st } :: []) ∧
      (second .failed).windowAt 0x1004 = some 0 ∧ ((second .failed).win 0).groupOf 0x1004 = 0 ∧ (second .failed).forwarded 0 0 1 = none :=
  ⟨fun _ => ⟨_, ⟨rfl, rfl, rfl, by show 1 < 2; decide⟩, rfl, rfl⟩, by decide +kernel⟩

theorem witness_PassthroughRuns :
    let r : HostRequest := .write 0x2000 [pixel 1]
    let s := handling (i8 .armed) r .ready
    let u := handling (withLine (p16 .armed) (line .gathering none none (.rgb16 1 2 3))) r .ready
    (atBeat s r ∧ s.windowAt 0x2000 = none ∧ s.gatherLaw ∧ (s.win 0).state ≠ .off ∧ (s.win 0).adaptive = true ∧
      (s.win 0).memLo = 0x2000) ∧
      (atBeat u r ∧ u.windowAt 0x2000 = none ∧ u.gatherLaw ∧ (∀ v, (u.win v).adaptive = false) ∧ (u.line 0).state = .gathering ∧
        (u.win 0).groupAddr 0 = 0x2000) ∧
      ∃ q : Run, q.wait = [] ∧ q.presenting = false ∧
        (handling (p16 .armed) r (.running q)).host.handling.map (·.activity) = some (.running q) :=
  ⟨⟨atBeat_handling _ _ (by decide), by decide +kernel⟩, ⟨atBeat_handling _ _ (by decide), by decide +kernel⟩,
    formRun (.write 0x2000 [pixel 1]) 0 0 [], rfl, rfl, rfl⟩

theorem witness_PassthroughRuns_arm :
    let q (a : Word32) := formRun (.write a [pixel 1]) 0 0 [3]
    let s (a : Word32) := handling (i8 .off) (.write a [pixel 1]) (.running (q a))
    (∀ a, (s a).host.handling = some (begun (.write a [pixel 1]) (.running (q a)))) ∧ (i8 .off).takesActions ∧
      ((i8 .off).win 0).state = .off ∧ ((i8 .off).win 0).valid = true ∧ (i8 .off).meetsOther 0 = false ∧
      ((i8 .off).win 0).adaptive = true ∧ (i8 .off).engine = .idle ∧ (q 0x200C).write = true ∧ (q 0x200C).lo = 0x200C ∧
      (q 0x200C).pieces.length = 1 ∧ (q 0x2010).lo = 0x2010 ∧ ((i8 .off).win 0).memHi = 0x2010 :=
  ⟨fun _ => rfl, by decide +kernel⟩

theorem witness_RunPieces :
    (1 < requestLength (.read 0x1038 16) ∧ (State.reset).windowAt 0x103C = none) ∧
      (∃ s : State, s.windowAt 0x0FFC = none ∧ s.windowAt 0x1000 ≠ none) ∧
      (formRun (.read 0x103C 2) 0 1 []).pieces.length = 2 ∧ (0x103C / 64 ≠ (0x103C + 4) / 64) ∧
      (formRun (.read 0x1040 16) 0 15 []).pieces.length = 1 ∧ 0x1040 / 64 = (0x1040 + 4 * 15) / 64 ∧
      (pieceRequest (.write 0x103C [pixel 1]) 0 0).mask = 0xF0 ∧ (pieceRequest (.write 0x1038 [pixel 1]) 0 0).mask = 0x0F :=
  ⟨by decide +kernel, ⟨p16 .armed, by decide +kernel⟩, by decide +kernel, by decide, by decide +kernel, by decide, by decide +kernel,
    by decide +kernel⟩

theorem witness_BeatsAndResponses_response :
    ∃ (s : State) (h : Handling), s.host.handling = some h ∧ s.host.queue = [.read 0 2] ∧ h.activity = .ready ∧
      h.results.length ≤ h.next ∧ h.results = [.done 7, .fault .guard] :=
  ⟨{ State.reset with
      host :=
        { State.reset.host with
          queue := [.read 0 2]
          handling := some { next := 2, results := [.done 7, .fault .guard], activity := .ready, reads := [] } } },
    _, rfl, rfl, rfl, by decide, rfl⟩

/-- A state in which each block presents a request: G0's flush write, a posted write, a fill write and a scan read. -/
def presenting : State :=
  { handling (withLine (i8 .arming) (line .flushing (some .writeWait) (some .full) (.index8 1))) (.write 0x3000 [pixel 1])
      (.running { formRun (.write 0x3000 [pixel 1]) 0 0 [] with presenting := true }) with
    engine := .filling { window := 0, phase := .writing, next := 0x2000, failed := none, aborted := false }
    scan := { State.reset.scan with state := .reading, next := 0x2000 } }

/-- A state of the engine's release. -/
def releasing (s : State) (reading : Bool) (next : Nat) (failed : Option Word32) : State :=
  { s with engine := .releasing { window := 0, reading := reading, next := next, pointer := next, failed := failed } }

/-- A state of the engine's fill. -/
def filling (s : State) (next : Nat) (failed : Option Word32) (aborted : Bool) : State :=
  { s with engine := .filling { window := 0, phase := .writing, next := next, failed := failed, aborted := aborted } }

theorem witness_RequestContents_flush :
    let s := withLine (p16 .armed) (line .flushing (some .readWait) (some .merge) (.rgb16 1 2 3))
    (s.line 0).state = .flushing ∧ (s.line 0).issued = false ∧ (s.line 0).phase = some .readWait ∧
      (presenting.line 0).phase = some .writeWait ∧ (presenting.line 1).state ≠ .flushing ∧ s.gather.present = none ∧
      s.gather.order = [] ++ 0 :: [] ∧ s.lineRequest 0 ≠ none ∧
      (State.gather { s with gather := { s.gather with present := some 0 } }).present = some 0 := by
  decide +kernel

theorem witness_RequestContents_host :
    let s := handling (p16 .armed) (.read 0x1000 1) (.reading 0)
    let g : GroupRead := { id := 0, window := 0, group := 0, status := .presented }
    (∃ u : State, u.host = { s.host with handling := some { begun (.read 0x1000 1) (.reading 0) with reads := [] ++ g :: [] } }) ∧
      (presenting.host.handling.map (·.activity)) =
        some (.running { formRun (.write 0x3000 [pixel 1]) 0 0 [] with presenting := true }) ∧
      (formRun (.write 0x3000 [pixel 1]) 0 0 []).pieces.length = 1 ∧ (formRun (.write 0x3000 [pixel 1]) 0 0 []).presenting = false :=
  ⟨⟨{ p16 .armed with host := _ }, rfl⟩, rfl, by decide +kernel, rfl⟩

theorem witness_RequestContents_walks :
    ((i8 .armed).win 0).memHi = 0x2010 ∧ presenting.engineRequest.isSome = true ∧
      (filling (i8 .arming) 0x2008 none false).engineRequest.isSome = true ∧
      (filling (i8 .arming) 0x2010 none false).engineRequest = none ∧ (filling (i8 .arming) 0x2000 none true).engineRequest = none ∧
      (releasing (i8 .draining) true 0x2008 none).engineRequest.isSome = true ∧
      (releasing (i8 .draining) true 0x2010 none).engineRequest = none ∧ presenting.scanRequest.isSome = true ∧
      (State.scanRequest { presenting with scan := { presenting.scan with next := 0x2010 } }) = none ∧
      State.reset.engine = .idle ∧ State.reset.scan.state ≠ .reading := by
  decide +kernel

theorem witness_IssueGrantJoins :
    presenting.link.halted = false ∧ (outstanding presenting (List.replicate 3 (readOf .scan 0))).link.outstanding.length < 4 ∧
      (State.flushRequest { presenting with gather := { presenting.gather with present := some 0 } }).map Prod.snd =
        some (.flushWrite 0) ∧
      presenting.flushRequest = none ∧ presenting.hostRequest.map Prod.snd = some .posted ∧
      (State.hostRequest { presenting with host := State.reset.host }).isNone = true ∧
      presenting.engineRequest.map Prod.snd = some .fill ∧
      (State.engineRequest { presenting with engine := .idle }).isNone = true ∧ presenting.scanRequest.map Prod.snd = some .scan ∧
      (releasing (i8 .draining) true 0x2000 none).engineRequest.map Prod.snd = some .release ∧
      (State.hostRequest { p16 .armed with
        host :=
          { State.reset.host with
            handling := some
              { begun (.read 0x1000 1) (.reading 0) with
                reads := [{ id := 0, window := 0, group := 0, status := .presented }] } } }).map Prod.snd = some (.hostGroup 0) ∧
      (handling State.reset (.read 0x3000 1) (.running { formRun (.read 0x3000 1) 0 0 [] with presenting := true })).hostRequest.map
        Prod.snd = some (.hostPiece 0) := by
  decide +kernel

theorem witness_FlushResponsesOk :
    let s := outstanding (withLine (i8 .armed) (line .flushing (some .writeWait) (some .counted) (.index8 1))) [writeOf (.flushWrite 0) 255]
    let u := outstanding (withLine (i8 .armed) (line .flushing (some .readWait) (some .counted) (.index8 1))) [readOf (.flushRead 0) 0]
    s.link.outstanding = [writeOf (.flushWrite 0) 255] ∧ (writeOf (.flushWrite 0) 255).req.write = true ∧ s.inSoftReset = false ∧
      u.link.outstanding = [readOf (.flushRead 0) 0] ∧ (readOf (.flushRead 0) 0).req.write = false ∧ u.inSoftReset = false := by
  decide +kernel

/-- A line that becomes FREE leaves the wait sets of a scan and of FLUSH_ALL, and each wait ends with it (R55, R66). -/
theorem test_line_leaves_wait_sets :
    let s := outstanding (withLine (p16 .armed) (line .flushing (some .writeWait) (some .full) (.rgb16 1 2 3))) [writeOf (.flushWrite 0) 255]
    let u := { s with
      scan := { s.scan with state := .flushing, wait := [0] }
      port := { s.port with action := { s.port.action with running := some (.flushAll [0]) } } }
    (after (.memoryResponse (.ok [])) u).map (fun t => (t.scan.wait, t.scan.state, t.port.action.running)) = some ([], .reading, none) := by
  decide +kernel

theorem witness_ErrorResponsesRecorded :
    let o := writeOf .posted 128
    (outstanding State.reset [readOf (.flushRead 0) 0]).link.outstanding = [readOf (.flushRead 0) 0] ∧
      (outstanding State.reset [o]).link.outstanding = [o] ∧ o.by' = .posted ∧ 7 < 8 * o.req.words ∧
      o.req.mask.getLsbD 7 = true ∧ (∀ i, i < 7 → o.req.mask.getLsbD i = false) ∧ State.reset.inSoftReset = false := by
  decide +kernel

theorem witness_HostReadsAnswered :
    let s := outstanding (second .outstanding) [readOf (.hostGroup 0) 0]
    let u := outstanding (second .outstanding) [readOf (.hostPiece 0) 0]
    let o := outstanding State.reset [writeOf .posted 255]
    s.inSoftReset = false ∧ (readOf (.hostGroup 0) 0).req.write = false ∧ s.host.handling.isSome = true ∧
      s.host.queue.head? = some (.read 0x1000 2) ∧ s.link.outstanding = [readOf (.hostGroup 0) 0] ∧
      s.host.handling.map (·.reads) = some ([] ++ { id := 0, window := 0, group := 0, status := .outstanding } :: []) ∧
      u.link.outstanding = [readOf (.hostPiece 0) 0] ∧ o.link.outstanding = [writeOf .posted 255] ∧ o.inSoftReset = false ∧
      (readOf .scan 0).req.words ≤ 8 ∧ ([5] : List Word64)[7 / 8]? = some 5 ∧ ([5] : List Word64)[8 / 8]? = none ∧ 60 + 4 ≤ 64 := by
  decide +kernel

theorem witness_EngineResponses_fill :
    let s (next : Nat) (failed : Option Word32) (aborted : Bool) (os : List Outstanding) :=
      outstanding (filling (i8 .arming) next failed aborted) (writeOf .fill 255 :: os)
    (∀ n f a os, (s n f a os).link.outstanding = writeOf .fill 255 :: os ∧ (s n f a os).inSoftReset = false ∧
      (s n f a os).engine = .filling { window := 0, phase := .writing, next := n, failed := f, aborted := a }) ∧
      (writeOf .fill 255).req.write = true ∧ (writeOf .fill 255).by' = .fill ∧ ((i8 .arming).win 0).memHi = 0x2010 ∧
      (∃ o ∈ [writeOf .fill 255], o.by' = .fill) :=
  ⟨fun _ _ _ _ => ⟨rfl, rfl, rfl⟩, by decide +kernel⟩

theorem witness_EngineResponses_release :
    let s (next : Nat) (failed : Option Word32) := outstanding (releasing (i8 .draining) true next failed) [readOf .release 0]
    (∀ n f, (s n f).link.outstanding = [readOf .release 0] ∧ (s n f).inSoftReset = false ∧
      (s n f).engine = .releasing { window := 0, reading := true, next := n, pointer := n, failed := f }) ∧
      (readOf .release 0).req.write = false ∧ ((i8 .draining).win 0).memHi = 0x2008 + 8 * (readOf .release 0).req.words ∧
      (readOf .release 0).req.addr = 0x2000 :=
  ⟨fun _ _ => ⟨rfl, rfl, rfl⟩, by decide +kernel⟩

/-- A soft reset runs. -/
def inReset (s : State) : State :=
  { s with port := { s.port with action := { s.port.action with running := some .softReset } } }

theorem witness_ResponsesDiscarded :
    State.reset.link.outstanding = [] ∧
      (inReset (outstanding State.reset [writeOf .posted 255])).link.outstanding = [writeOf .posted 255] ∧
      (inReset (outstanding State.reset [writeOf .posted 255])).inSoftReset = true := by
  decide +kernel

theorem witness_ScanReadsAnswered :
    let s (st : ScanState) (next : Nat) (os : List Outstanding) :=
      { outstanding (p16 .armed) (readOf .scan 0 :: os) with scan := { State.reset.scan with state := st, next := next } }
    (∀ st n os, (s st n os).link.outstanding = readOf .scan 0 :: os ∧ (s st n os).inSoftReset = false ∧
      (s st n os).scan.state = st ∧ (s st n os).scan.next = n) ∧ (readOf .scan 0).req.write = false ∧
      ((s .reading 0x2020 []).win (s .reading 0x2020 []).scan.window).memHi = 0x2020 ∧ (readOf .scan 0).by' = .scan :=
  ⟨fun _ _ _ => ⟨rfl, rfl, rfl, rfl⟩, by decide +kernel⟩

theorem witness_MemoryTimeoutHalts :
    let s := State.ripen (outstanding State.reset [readOf .scan 100])
    s.link.outstanding = [readOf .scan 100] ∧ s.timeoutDue = true ∧
      (State.ripen (outstanding State.reset [readOf .scan 99])).timeoutDue = false ∧ (inReset s).inSoftReset = true ∧
      s.inSoftReset = false := by
  decide +kernel

/-- Step 4 of a timeout has work to do for each block, and so has the HALTED link. -/
theorem witness_MemoryTimeoutHalts_presented :
    let s := { presenting with link := { halted := true, outstanding := [] } }
    let u := { s with host := State.reset.host }
    (State.gather { s with gather := { s.gather with present := some 0 } }).present = some 0 ∧ s.gather.present = none ∧
      s.hostRequest ≠ none ∧ u.gather.present = none ∧ u.hostRequest = none ∧ u.engineRequest.isSome = true ∧
      (State.engineRequest { u with engine := .idle }) = none ∧ (State.scanRequest { u with engine := .idle }) ≠ none ∧
      State.scanRequest { State.reset with link := s.link } = none := by
  decide +kernel

/-- A timeout with a flush read, a posted write and a scan read outstanding: the records in the order of R129. -/
theorem test_timeout_records :
    let s := State.ripen { outstanding (withLine (p16 .armed) (line .flushing (some .readWait) (some .merge) (.rgb16 1 2 3)))
        [readOf (.flushRead 0) 100, writeOf .posted 128, readOf .scan 3] with
      scan := { State.reset.scan with state := .reading } }
    (after .memoryTimeout s).map (fun t => (t.faults.records.map (·.cause), t.link.halted, t.scan.results.map (·.status), (t.line 0).state)) =
      some ([.memoryTimeout, .lostWrite, .postedWriteError], true, [.memError], .free) := by
  decide +kernel

theorem witness_ErrorsDelivered :
    (readOf (.flushRead 0) 0).by' = .flushRead 0 ∧ State.reset.host.handling = none ∧ (second .outstanding).host.handling.isSome = true ∧
      7 < 8 * (writeOf .posted 128).req.words ∧ (∀ j < 8 * (writeOf .posted 0).req.words, (writeOf .posted 0).req.mask.getLsbD j = false) ∧
      (filling (i8 .arming) 0x2010 none false).link.outstanding = [] ∧ ((i8 .arming).win 0).memHi = 0x2010 ∧
      (filling (i8 .arming) 0x2010 none false).engine ≠ .idle ∧ (releasing (i8 .draining) true 0x2010 none).engine ≠ .idle ∧
      State.reset.scan.state = .idle ∧ presenting.scan.state = .reading ∧
      (outstanding presenting [readOf .scan 0]).link.outstanding.any Outstanding.isScan = true := by
  decide +kernel

theorem witness_LineEvents :
    (State.ripen (withLine (p16 .armed) { line .gathering none none (.rgb16 1 2 3) with idle := 16 })).idleDue 0 = true ∧
      (State.ripen (withLine (p16 .armed) { line .gathering none none (.rgb16 1 2 3) with idle := 15 })).idleDue 0 = false ∧
      (let s := attached (withLine (p16 .armed) (line .flushing (some .mirrorWait) (some .full) (.rgb16 1 2 3)))
       (s.line 0).state = .flushing ∧ (s.line 0).phase = some .mirrorWait ∧
         (s.mirror.sent - (s.line 0).mark).toNat < 32768) := by
  decide +kernel

theorem witness_MergedGroupData :
    let w := window 1 0 .armed
    let ln := line .flushing none none (.rgb16 31 63 31)
    (∀ i : SlotId, i ≠ 0 → ln.slots[i] = none) ∧ ln.slots[(0 : SlotId)] = some (.rgb16 31 63 31) ∧
      w.fmt.storedOf (Stored.field (.rgb16 31 63 31)) = .rgb16 31 63 31 ∧ w.fmt.pixels = 4 ∧
      w.fmt.getSlot (ln.merged w) 0 = .rgb16 31 63 31 ∧ w.fmt.getSlot (ln.merged w) 3 = .rgb16 0 0 0 := by
  decide +kernel

theorem witness_DrainAndFillPhases_drain :
    ((p16 .draining).win 0).state = .draining ∧ ((p16 .draining).win 0).adaptive = false ∧
      (∀ l, ((p16 .draining).line l).state = .free) ∧ (p16 .draining).holdsBeat 0 = false ∧ (p16 .draining).inSoftReset = false ∧
      ∃ (s : State) (r : Release), s.engine = .releasing r ∧ r.reading = false ∧ (∀ l, (s.line l).state = .free) ∧
        s.holdsBeat r.window = false :=
  ⟨by decide +kernel, by decide +kernel, by decide +kernel, by decide, by decide,
    { i8 .draining with engine := .releasing { window := 0, reading := false, next := 0x2000, pointer := 0x2000, failed := none } },
    _, rfl, rfl, by decide +kernel, by decide⟩

theorem witness_DrainAndFillPhases_fill :
    let f : Fill := { window := 0, phase := .announce, next := 0x2000, failed := none, aborted := false }
    f.aborted = false ∧ f.phase = .announce ∧ (i8 .arming).mirror.link = .detached ∧ (attached (i8 .arming)).mirror.link ≠ .detached ∧
      (queued (attached (i8 .arming)) (List.replicate 15 (message .entry 1)) false).mirror.level < 16 ∧
      ((1 : Half) - 1).toNat < 32768 := by
  decide +kernel

theorem witness_MessagesStartAndLeave :
    let s := queued (attached State.reset) [message .entry 1] false
    let u := queued (attached State.reset) (List.replicate 16 (message .entry 1)) true
    s.mirror.link ≠ .detached ∧ 0 < s.mirror.credits ∧ s.mirror.sending = false ∧ s.mirror.queue ≠ [] ∧
      u.mirror.queue = message .entry 1 :: List.replicate 15 (message .entry 1) ∧ u.mirror.sending = true ∧ u.mirror.reserve = false ∧
      (State.colour { u with colour := { u.colour with held := [3] } }).held = [3] := by
  decide +kernel

/-- The claimants of a place: a beat that waits for space, a fill to announce, and the generator at each stage of its walk. -/
theorem witness_MessagesStartAndLeave_claimants :
    let s := attached (placing (i8 .armed) (held 9 .space))
    let full := queued (attached State.reset) (List.replicate 15 (message .entry 1)) true
    let walks (p : EntryId) (x : Walk) : State :=
      { full with mirror := { full.mirror with link := .resync, pointer := p, walk := x } }
    s.beatWaitsSpace = true ∧ s.colour.held = [] ∧ s.mirror.level < 16 ∧ full.mirror.level = 15 ∧
      full.host.handling = none ∧ full.engine = .idle ∧ (walks 254 .entries).mirror.pointer ≠ 255 ∧
      (walks 255 .ending).mirror.link = .resync ∧ (walks 255 .over).mirror.walk = .over ∧
      (State.announcing { attached (i8 .arming) with
        engine := .filling { window := 0, phase := .announce, next := 0x2000, failed := none, aborted := false } }).isSome = true ∧
      (State.mirror { full with mirror := { full.mirror with reserve := true } }).reserve = true := by
  decide +kernel

/-- A resync is under way. -/
def resyncing (p : EntryId) (w : Walk) : State :=
  { State.reset with mirror := { State.reset.mirror with link := .resync, pointer := p, walk := w } }

theorem witness_ResyncWalks :
    (resyncing 254 .entries).mirror.link = .resync ∧ (resyncing 254 .entries).mirror.level < 16 ∧
      (resyncing 254 .entries).colour.held = [] ∧ (resyncing 254 .entries).beatWaitsSpace = false ∧
      (resyncing 254 .entries).announcing = none ∧ (resyncing 254 .entries).mirror.pointer ≠ 255 ∧
      (resyncing 255 .entries).mirror.pointer = 255 ∧ (resyncing 255 .ending).mirror.walk = .ending := by
  decide +kernel

theorem witness_CreditAndStall_credit :
    State.reset.mirror.link = .detached ∧ (attached State.reset).mirror.link ≠ .detached ∧
      (attached State.reset).mirror.credits < 8 ∧
      ∃ s : State, s.mirror.link ≠ .detached ∧ 8 ≤ s.mirror.credits :=
  ⟨by decide, by decide, by decide,
    { State.reset with mirror := { State.reset.mirror with link := .attached, credits := 8 } }, by decide⟩

/-- A message waits for a credit, with the stall timer at a value. -/
def stalling (n : Nat) : State :=
  let s := queued (attached State.reset) [message .entry 1] false
  State.ripen { s with mirror := { s.mirror with credits := 0, stall := n } }

theorem witness_CreditAndStall_stall : (stalling 20000).stallDue = true ∧ (stalling 19999).stallDue = false := by decide +kernel

theorem witness_ScansBecomePending :
    let s (dirty pending : Bool) (n : Nat) :=
      State.ripen ((p16 .armed).setWin 0
        { window 1 0 .armed with quiet := 1, timer := .timing n, dirty := dirty, pending := pending })
    (s true false 100).quietDue 0 = true ∧ (s true false 99).quietDue 0 = false ∧ (s false false 100).quietDue 0 = true ∧
      (s true true 100).quietDue 0 = true ∧ (p16 .armed).port.txn ≠ .void ∧ (p16 .armed).port.action.running = none ∧
      ((p16 .off).win 0).state ≠ .armed ∧ ((p16 .armed).win 0).pending = false ∧ ((s true true 0).win 0).pending = true := by
  decide +kernel

theorem witness_ScanStarts :
    let s := (p16 .armed).setWin 0 { window 1 0 .armed with pending := true }
    s.scan.state = .idle ∧ s.scan.results.length < 4 ∧ s.inSoftReset = false ∧ (s.win 0).state = .armed ∧
      (s.win 0).pending = true ∧
      (State.scan { s with scan := { s.scan with state := .flushing } }).wait = [] ∧
      (State.gatherLaw (withLine s (filled 1 (.rgb16 1 2 3)))) ∧ ((withLine s (filled 1 (.rgb16 1 2 3))).line 0).state = .gathering := by
  decide +kernel

theorem witness_ArmJudged_accepted :
    (p16 .off).port.txn ≠ .void ∧ (p16 .off).port.action.running = none ∧ ((p16 .off).win 0).state = .off ∧
      ((p16 .off).win 0).valid = true ∧ (p16 .off).meetsOther 0 = false ∧ ((p16 .off).win 0).adaptive = false ∧
      ((i8 .off).win 0).valid = true ∧ (i8 .off).meetsOther 0 = false ∧ ((i8 .off).win 0).adaptive = true ∧
      (i8 .off).engine = .idle := by
  decide +kernel

theorem witness_ArmJudged_valid :
    let x := window 4 1 .off
    x.valid = true ∧ Window.valid { x with fillEntry := 15 } = true ∧ Window.valid { x with fillEntry := 16 } = false ∧
      Window.valid { x with partition := 16 } = false ∧ Window.valid { x with pixels := 15 } = false ∧
      Window.valid { x with pixels := 4194304 } = true ∧ Window.valid { x with pixels := 4194320 } = false ∧
      Window.valid { x with hbase := 0xFFFFFFC0 } = true ∧ Window.valid { x with hbase := 0xFFFFFFE0 } = false ∧
      Window.valid { x with mbase := 0xFFFFFFF8 } = true ∧ Window.valid { x with mbase := 0xFFFFFFF8, format := 3 } = false ∧
      Window.valid { x with format := 5 } = false := by
  decide +kernel

theorem witness_ArmJudged_refused :
    ((p16 .armed).win 0).state ≠ .off ∧ (State.reset.win 0).state = .off ∧ (State.reset.win 0).valid = false ∧
      ((p16 .off).setWin 1 (window 1 0 .armed)).meetsOther 0 = true ∧
      ((p16 .off).setWin 1 { window 1 0 .armed with hbase := 0x1040, mbase := 0x2020 }).meetsOther 0 = false ∧
      ((i8 .off).win 0).adaptive = true ∧
      (State.engine { i8 .off with engine := .releasing { window := 1, reading := false, next := 0, pointer := 0, failed := none } })
        ≠ .idle := by
  decide +kernel

theorem witness_DisarmByState :
    State.reset.port.txn ≠ .void ∧ State.reset.port.action.running = none ∧ (State.reset.win 0).state = .off ∧
      ¬(State.reset.scan.state = .flushing ∨ State.reset.scan.state = .reading) ∧ ((p16 .draining).win 0).state = .draining ∧
      ((i8 .armed).win 0).state = .armed ∧ ((i8 .armed).win 0).adaptive = true ∧ (i8 .armed).engine = .idle ∧
      (releasing (i8 .armed) true 0x2000 none).engine ≠ .idle ∧ ((p16 .armed).win 0).adaptive = false ∧ (p16 .armed).gatherLaw := by
  decide +kernel

theorem witness_DisarmByState_scan :
    let s := { p16 .armed with scan := { State.reset.scan with state := .reading } }
    (s.scan.state = .reading ∧ s.scan.window = 0 ∧ (s.win 0).state = .armed ∧ s.gatherLaw) ∧
      (State.gatherLaw { s with scan := { s.scan with state := .flushing } }) := by
  decide +kernel

theorem witness_DisarmByState_fill :
    let s (f : Option Word32) (os : List Outstanding) := outstanding (filling (i8 .arming) 0x2000 f false) os
    (∀ f os, ((s f os).win 0).state = .arming ∧ (s f os).link.outstanding = os ∧
      (s f os).engine = .filling { window := 0, phase := .writing, next := 0x2000, failed := f, aborted := false }) ∧
      (∃ o ∈ [writeOf .fill 255], o.by' = .fill) :=
  ⟨fun _ _ => ⟨rfl, rfl, rfl⟩, by decide +kernel⟩

theorem witness_FlushAllRuns :
    State.reset.port.txn ≠ .void ∧ State.reset.port.action.running = none ∧ State.reset.gatherLaw ∧
      ∃ s : State, s.port.action.running = some (.flushAll []) :=
  ⟨by decide, by decide, by decide +kernel,
    { State.reset with port := { State.reset.port with action := { State.reset.port.action with running := some (.flushAll []) } } },
    rfl⟩

theorem witness_MirrorAndCountActions_mirror :
    State.reset.port.txn ≠ .void ∧ State.reset.port.action.running = none ∧ State.reset.mirror.link = .detached ∧
      (attached State.reset).mirror.link ≠ .detached := by
  decide

theorem witness_MirrorAndCountActions_recount :
    (((i8 .armed).win 0).adaptive = true ∧ ((i8 .armed).win 0).state ≠ .off) ∧
      ∀ w, ((i8 .off).win w).adaptive = true → ((i8 .off).win w).state = .off := by
  decide +kernel

theorem witness_RecordsAndAttention :
    State.reset.faults.records = [] ∧ State.reset.scan.results = [] ∧
      (after (.memoryResponse .error) State.reset).map (fun t => t.faults.records.length) = some 1 ∧
      (State.scan { State.reset with
        scan :=
          { State.reset.scan with
            results := [{ window := 0, epoch := 1, crc := 0, status := .clean, trigger := .quiet }] } }).results.length = 1 ∧
      (List.replicate 7 (FaultRecord.bare .strayResponse)).length < 8 ∧ 8 ≤ (List.replicate 8 (FaultRecord.bare .strayResponse)).length ∧
      (after (.memoryResponse .error) State.reset).map State.attn = some true := by
  decide +kernel

theorem witness_SoftResetSteps :
    State.reset.port.txn ≠ .void ∧ State.reset.port.action.running = none ∧
      (inReset State.reset).port.action.running = some .softReset ∧ (inReset State.reset).link.outstanding = [] := by
  decide

/-- A request that waits on the link is taken in the event that ends the soft reset (R148, R172). -/
theorem test_soft_reset_takes_waiting :
    let s := inReset { State.reset with host := { State.reset.host with taking := false } }
    let r : HostRequest := .read 0x1000 1
    (run [.hostRequest r, .softResetComplete] { s with link := { s.link with outstanding := [] } }).map (fun t => t.host.queue) =
        some [r] ∧
      (HostSide.takeWaiting { queue := [], waiting := [r], taking := true, handling := none }).queue = [r] := by
  decide +kernel

theorem witness_ActionsRefused :
    (inReset State.reset).port.txn ≠ .void ∧ (inReset State.reset).port.action.running ≠ none ∧ 7 < (8 : Byte).toNat ∧
      stream .action 0x0021 [] ≠ .void ∧ stagedCode [] = 0 ∧ 10 < (stagedCode [(0x0020, 11)]).toNat := by
  decide +kernel

/-- The next written byte is the one at an address of a region, in an open stream and as the first of a transaction. -/
theorem writesAt_both (s : State) (r : Region) (a : Half) (st : List (Half × Byte)) (o : List Byte) (hr : regionOf a = some r) :
    (∃ t, (withSdo (withTxn s (stream r a st)) o).writesAt r a t o ∧ t.staged = st) ∧
      ∃ t, (withTxn s .none).writesAt r a t [0, 0, 0] ∧ t.staged = [] :=
  ⟨⟨_, .inl ⟨rfl, rfl, rfl, rfl, rfl, rfl⟩, rfl⟩, ⟨_, .inr ⟨rfl, hr, rfl, rfl⟩, rfl⟩⟩

theorem witness_ActionsRefused_operand :
    let t : Stream := { write := true, region := some .action, next := 0x0021, ended := false, staged := [(0x0020, 4)], capture := none }
    let s := withSdo (withTxn State.reset (.data t)) [0, 0, 0, 0]
    s.port.txn ≠ .void ∧ s.writesAt .action 0x0021 t [0, 0, 0, 0] ∧ s.port.action.running = none ∧ stagedCode t.staged = 4 ∧
      ((4 : Byte), Instr.flushAll 0) ∈ actionRows 0 ∧ (inReset s).port.action.running ≠ none ∧
      (inReset s).writesAt .action 0x0021 t [0, 0, 0, 0] ∧ stagedCode [(0x0020, 3)] = 3 ∧
      after (.registerWrite 0x0020 4) State.reset = some s :=
  ⟨by decide, .inl ⟨rfl, rfl, rfl, rfl, rfl, rfl⟩, by decide, by decide, by decide, by decide,
    .inl ⟨rfl, rfl, rfl, rfl, rfl, rfl⟩, by decide, by decide +kernel⟩

/-- Code and operand byte of an action in one transaction do what its row does (R167; log entry 12). -/
theorem test_operand_commits :
    run [.registerWrite 0x0020 1, .registerWrite 0x0021 0] (p16 .off) = after (.arm 0) (p16 .off) ∧
      run [.registerWrite 0x0020 5, .registerWrite 0x0021 0] State.reset = after (.mirrorAttach 0) State.reset := by
  decide +kernel

theorem witness_ActionsRefused_unknown :
    (∃ t, (withSdo (withTxn State.reset (stream .action 0x0021 [(0x0020, 11)])) [0, 0, 0, 0]).writesAt .action 0x0021 t [0, 0, 0, 0] ∧
      t.staged = [(0x0020, 11)]) ∧ ∃ t, (withTxn State.reset .none).writesAt .action 0x0021 t [0, 0, 0] ∧ t.staged = [] :=
  writesAt_both _ _ _ _ _ (by decide)

theorem witness_WindowFieldCommits :
    (∃ t, (withSdo (withTxn (p16 .off) (stream .windows 0x0114 [(0x0113, 0xFF)])) [0, 0, 0, 0]).writesAt .windows (commitAddr 0 .quiet) t
      [0, 0, 0, 0] ∧ t.staged = [(0x0113, 0xFF)]) ∧
      (∃ t, (withTxn (p16 .off) .none).writesAt .windows (commitAddr 0 .format) t [0, 0, 0] ∧ t.staged = []) ∧
      ((p16 .off).win 0).state = .off ∧ ((p16 .armed).win 0).state ≠ .off ∧
      formField ((p16 .armed).win 0) [(0x0113, 0xFF)] (fieldAddr 0 .quiet) .quiet 0x0F = 4095 ∧
      formField ((p16 .armed).win 0) [(0x0113, 0x00)] (fieldAddr 0 .quiet) .quiet 0x10 = 4096 ∧ 16777215 < 256 ^ fieldBytes .pixels :=
  ⟨(writesAt_both (p16 .off) .windows 0x0114 _ _ (by decide)).1, (writesAt_both (p16 .off) .windows 0x010B [] [] (by decide)).2,
    by decide +kernel⟩

theorem witness_EntryCommits :
    (∃ t, (withSdo (withTxn State.reset (stream .entries 0x07FF [(0x07FC, 9)])) [0, 0, 0, 0]).writesAt .entries
      (BitVec.ofNat 16 (0x0403 + 4 * (255 : EntryId).val)) t [0, 0, 0, 0] ∧ t.staged = [(0x07FC, 9)]) ∧
      (∃ t, (withTxn State.reset .none).writesAt .entries (BitVec.ofNat 16 (0x0403 + 4 * (0 : EntryId).val)) t [0, 0, 0] ∧
        t.staged = []) ∧
      colourRequest (State.reset.entry 255) [(0x07FC, 9)] (0x0400 + 4 * 255) = some { r := 9, g := 0, b := 0 } ∧
      (State.reset.entry 1).count = 0 ∧ (∃ s : State, (s.entry 1).pinned = false ∧ 0 < (s.entry 1).count) ∧
      State.reset.mirror.link = .detached ∧ (attached State.reset).mirror.level < 16 ∧
      16 ≤ (queued (attached State.reset) (List.replicate 16 (message .entry 1)) false).mirror.level ∧ 1 ∉ State.reset.colour.held :=
  ⟨(writesAt_both State.reset .entries 0x07FF _ _ (by decide)).1, (writesAt_both State.reset .entries 0x0403 [] [] (by decide)).2,
    by decide +kernel, by decide +kernel,
    ⟨{ State.reset with colour := State.reset.colour.addCount 1 1 }, by decide +kernel⟩, by decide, by decide, by decide, by decide⟩

theorem witness_DataBytesWritten :
    State.reset.port.txn = .none ∧ regionOf 0x0100 = some .windows ∧ writeItem .windows 0 = .stage ∧
      regionOf 0x0020 = some .action ∧ writeItem .action 0 = .stage ∧ regionOf 0x000F = some .id ∧ writeItem .id 15 = .readOnly ∧
      regionOf 0x01FF = some .windows ∧ writeItem .windows 255 = .readOnly ∧ regionOf 0x0200 = none ∧ regionOf 0x0C20 = none ∧
      (∃ t, (withTxn State.reset .none).writesAt .global 0x0014 t [0, 0, 0] ∧ t.staged = []) ∧
      (∃ t, (withSdo (withTxn State.reset (stream .windows 0x01FF [])) [0, 0, 0, 0]).writesAt .windows 0x01FF t [0, 0, 0, 0] ∧
        t.staged = []) ∧
      carriesByte (.globalWrite .prescale 1) 0x0010 1 ∧ 0x0000 + 16 ≤ (0x0010 : Half).toNat ∧
      carriesByte (.windowFieldCommit 7 .quiet 1) 0x01F4 1 ∧ carriesByte (.entryCommit 255 1) 0x07FF 1 :=
  ⟨by decide, by decide, by decide, by decide, by decide, by decide, by decide, by decide, by decide, by decide, by decide,
    (writesAt_both State.reset .global 0x0014 [] [] (by decide)).2, (writesAt_both State.reset .windows 0x01FF [] _ (by decide)).1,
    .inr (.inl ⟨_, rfl, by decide⟩), by decide, .inr (.inr (.inl ⟨_, _, rfl, rfl⟩)), .inr (.inr (.inr ⟨_, rfl, rfl⟩))⟩

/-- A stream that begins in the ID region runs into GLOBAL: BOUNDARY is noted there, and that byte and the next are dropped, whichever
row carries them (R161). -/
theorem test_write_beyond_region :
    (run [.registerWrite 0x000F 1, .globalWrite .prescale 9, .globalWrite .gatherIdle 9] State.reset).map
      (fun t => (t.port.refusal, t.port.settings.prescale, t.port.settings.gatherIdle)) =
      some ({ reason := some .boundary, addr := 0x0010, count := 2 }, 24, 16) := by
  decide +kernel

theorem readsAt_both (s : State) (r : Region) (a : Half) (x : Option Capture) (o : List Byte) (hr : regionOf a = some r)
    (h : r.base ≤ a.toNat ∧ a.toNat < r.base + r.size) :
    (∃ t, (withSdo (withTxn s
        (.data { write := false, region := some r, next := a, ended := false, staged := [], capture := x })) o).readsAt r a t o ∧
      t.capture = x) ∧ ∃ t, (withTxn s .none).readsAt r a t [0, 0, 0, 0] ∧ t.capture = none :=
  ⟨⟨_, .inl ⟨rfl, rfl, rfl, rfl, rfl, h.1, h.2, rfl⟩, rfl⟩, ⟨_, .inr ⟨rfl, hr, rfl, rfl⟩, rfl⟩⟩

theorem witness_ReadsCapture :
    (∀ x, (∃ t, (withSdo (withTxn State.reset
        (.data { write := false, region := some .counts, next := 0x0BFC, ended := false, staged := [], capture := x })) [0]).readsAt
          .counts 0x0BFC t [0] ∧ t.capture = x) ∧
      ∃ t, (withTxn State.reset .none).readsAt .counts 0x0BFC t [0, 0, 0, 0] ∧ t.capture = none) ∧
      isCaptured .counts 0x0BFC 4 ∧ isCaptured .windows 0x01F6 2 ∧ isCaptured .status 0x003B 4 ∧
      (∀ b n, ¬isCaptured .global b n) ∧ 0x0BFC + 3 = (0x0BFF : Half).toNat ∧ Region.counts.base + Region.counts.size = 0x0C00 ∧
      regionOf 0x0C20 = none :=
  ⟨fun x => readsAt_both State.reset .counts 0x0BFC x [0] (by decide) (by decide), .inl ⟨rfl, rfl, 255, rfl⟩,
    .inr (.inl ⟨rfl, rfl, 7, rfl⟩), .inr (.inr (.inl ⟨rfl, rfl, rfl⟩)), fun _ _ => by simp, by decide, by decide, by decide⟩

/-- The first byte of a captured item reached in mid-stream captures it, and the bytes before it are current (R164). -/
theorem test_capture_in_mid_stream :
    (run [.readCapture 0x0115, .readCapture 0x0116] State.reset).map (fun t => (t.port.txn, t.out.sdo)) = some (.data
      { write := false, region := some .windows, next := 0x0117, ended := false, staged := []
        capture := some { base := 0x0116, bytes := [0, 0] } }, some [0, 0, 0, 0, 0, 0]) := by
  decide +kernel

theorem witness_RegionBytes :
    State.reset.faults.records = [] ∧ State.reset.scan.results = [] ∧
      (after (.memoryResponse .error) State.reset).map (·.faults.records) = some [FaultRecord.bare .strayResponse] ∧
      (∃ s : State, s.scan.results = [{ window := 7, epoch := 1, crc := 0, status := .clean, trigger := .quiet }]) ∧
      (faultResponse (.read 0 1) .reset).cause = some .reset ∧
      regionOf 0x0C1F = some .resultHead ∧ regionOf 0x0C20 = none ∧ regionOf 0x003F = some .status ∧ regionOf 0x0040 = none :=
  ⟨by decide, by decide, by decide +kernel,
    ⟨{ State.reset with
        scan :=
          { State.reset.scan with results := [{ window := 7, epoch := 1, crc := 0, status := .clean, trigger := .quiet }] } }, rfl⟩,
    by decide, by decide, by decide, by decide, by decide⟩

theorem witness_TransactionsBeginAndEnd :
    (0x39 : Byte) ≠ 0x3A ∧ (0x39 : Byte) ≠ 0x3B ∧ (0x3C : Byte) ≠ 0x3B ∧
      (run [.voidTransaction 0x39] State.reset).map (fun t => (t.port.txn, t.out.sdo)) = some (.void, some [0]) ∧
      Instr.softReset 0 ∈ (actionRows 0).map Prod.snd := by
  decide +kernel

theorem witness_NarrowingAndWidening_write :
    (window 1 0 .armed).format = 1 ∧ (window 1 0 .armed).round = 0 ∧ (window 2 0 .armed).format = 2 ∧
      (Window.round { window 2 0 .armed with round := 1 }) = 1 ∧ (window 0 0 .armed).format = 0 ∧ (window 4 0 .armed).format = 4 := by
  decide

theorem witness_NarrowingAndWidening_read :
    (window 1 0 .armed).fill = 0 ∧ (Window.fill { window 1 0 .armed with fill := 1 }) = 1 := by
  decide

theorem witness_NearestMatch :
    State.reset.colour.nearest Colour.black ((window 3 1 .armed).range.filter (fun _ => true)) = some 0 := by decide +kernel

/-- A state with a held line and a pending command. -/
def busy : State := { withLine (p16 .armed) (line .gathering none none (.rgb16 1 2 3)) with pending := [.idleExpiry 0] }

/-- The premises of the laws that a step keeps are met in it. -/
theorem witness_StepKeeps_queues : busy.faultLaw ∧ busy.ingressLaw ∧ busy.heldLaw ∧ busy.memoryLinkLaw ∧ busy.resultLaw ∧
    busy.mirrorLaw ∧ busy.sequenceLaw ∧ busy.memoryLaw ∧ busy.sdoLaw :=
  ⟨by decide +kernel, by decide +kernel, by decide +kernel, by decide +kernel, by decide +kernel, by decide +kernel,
    by decide +kernel, by decide +kernel, by decide +kernel⟩

theorem witness_StepKeeps_gather : busy.gatherLaw ∧ busy.groupLaw := ⟨by decide +kernel, by decide +kernel⟩

theorem witness_StepKeeps_ranges : busy.rangeLaw ∧ busy.countLaw :=
  ⟨⟨by decide +kernel, trivial, by decide +kernel⟩, by decide +kernel⟩

theorem witness_Frames :
    writesByte .transactionEnd = false ∧ Instr.transactionEnd ≠ .deviceReset ∧
      (after .transactionEnd State.reset).isSome = true ∧ (after (.readCapture 0x0030) State.reset).isSome = true ∧
      (after (.boundary 0x0040) State.reset).isSome = true ∧
      (after (.memoryResponse (.ok [])) (outstanding State.reset [writeOf .posted 255])).map (·.memory) =
        some (Memory.perform [] (writeOf .posted 255).req) ∧
      (after (.memoryResponse .error) (outstanding State.reset [writeOf .posted 255])).map (·.memory) = some [] ∧
      Memory.read (Memory.perform [] (writeOf .posted 2).req) 0x2001 = some 1 ∧
      Memory.read (Memory.perform [] (writeOf .posted 2).req) 0x2000 = none := by
  decide +kernel

end Sys2Proof.Tests
end

section
/-! PROOF. The conversions of Chapter 1: what a pixel write stores in a channel window, and the host pixel word that a read
returns. -/

namespace Sys2Proof.Machine

/-! ### Window options -/

/-- Table 11-7: a window whose format field holds a defined code has that format. -/
theorem Window.fmt_of_code {w : Window} {c : Byte} {f : Fmt} (hw : w.format = c) (hc : fmtOfCode c = some f) : w.fmt = f := by
  simp [Window.fmt, hw, hc]

theorem Window.rounds_of_truncate {w : Window} (h : w.round = 0) : w.rounds = false := by simp [Window.rounds, h]

theorem Window.rounds_of_round {w : Window} (h : w.round = 1) : w.rounds = true := by simp [Window.rounds, h]

theorem Window.replicates_of_zero {w : Window} (h : w.fill = 0) : w.replicates = false := by simp [Window.replicates, h]

theorem Window.replicates_of_replicate {w : Window} (h : w.fill = 1) : w.replicates = true := by simp [Window.replicates, h]

/-! ### Narrowing and widening at each option -/

/-- R7. -/
theorem narrow_truncate (n : Nat) (v : Byte) : narrow false n v = v.toNat / 2 ^ (8 - n) := rfl

/-- R8. -/
theorem narrow_round (n : Nat) (v : Byte) :
    narrow true n v = min ((v.toNat + 2 ^ (7 - n)) / 2 ^ (8 - n)) (2 ^ n - 1) := rfl

/-- R11. -/
theorem widen_zero (n c : Nat) : widen false n c = BitVec.ofNat 8 (c * 2 ^ (8 - n)) := rfl

/-- R12. -/
theorem widen_replicate (n c : Nat) : widen true n c = BitVec.ofNat 8 (c * 2 ^ (8 - n) + c / 2 ^ (2 * n - 8)) := rfl

/-! ### The host pixel word -/

/-- The key bit of a P15 write, bit 7 of the spare byte, is bit 31 of the host pixel word (R10). -/
@[simp] theorem pixelSpare_key (word : Word32) : (pixelSpare word)[7] = word[31] := by simp [pixelSpare]

@[simp] theorem pixelWord_blue (c : Colour) (k : Byte) : (pixelWord c k).extractLsb' 0 8 = c.b :=
  BitVec.extractLsb'_append_eq_right

@[simp] theorem pixelWord_green (c : Colour) (k : Byte) : (pixelWord c k).extractLsb' 8 8 = c.g :=
  calc (k ++ c.r ++ c.g ++ c.b).extractLsb' 8 8
    _ = (k ++ c.r ++ c.g).extractLsb' 0 8 := BitVec.extractLsb'_append_eq_of_le (by decide)
    _ = c.g := BitVec.extractLsb'_append_eq_right

@[simp] theorem pixelWord_red (c : Colour) (k : Byte) : (pixelWord c k).extractLsb' 16 8 = c.r :=
  calc (k ++ c.r ++ c.g ++ c.b).extractLsb' 16 8
    _ = (k ++ c.r ++ c.g).extractLsb' 8 8 := BitVec.extractLsb'_append_eq_of_le (by decide)
    _ = (k ++ c.r).extractLsb' 0 8 := BitVec.extractLsb'_append_eq_of_le (by decide)
    _ = c.r := BitVec.extractLsb'_append_eq_right

@[simp] theorem pixelWord_spare (c : Colour) (k : Byte) : (pixelWord c k).extractLsb' 24 8 = k :=
  calc (k ++ c.r ++ c.g ++ c.b).extractLsb' 24 8
    _ = (k ++ c.r ++ c.g).extractLsb' 16 8 := BitVec.extractLsb'_append_eq_of_le (by decide)
    _ = (k ++ c.r).extractLsb' 8 8 := BitVec.extractLsb'_append_eq_of_le (by decide)
    _ = k := BitVec.extractLsb'_append_eq_left

/-- The host pixel word keeps the three channels apart (Table 11-1). -/
@[simp] theorem pixelColour_pixelWord (c : Colour) (k : Byte) : pixelColour (pixelWord c k) = c := by simp [pixelColour]

/-! ### The stored value of a pixel write, per format -/

/-- R9: P24 stores the channels as written. -/
theorem Window.encode_p24 {w : Window} (hw : w.format = 0) (word : Word32) :
    w.encode word = some (.rgb24 (word.extractLsb' 16 8) (word.extractLsb' 8 8) (word.extractLsb' 0 8)) := by
  simp [Window.encode, Window.fmt_of_code hw rfl, pixelColour]

/-- R9: P16 narrows R and B to 5 bits and G to 6. -/
theorem Window.encode_p16 {w : Window} (hw : w.format = 1) (word : Word32) :
    w.encode word = some (.rgb16 (BitVec.ofNat 5 (narrow w.rounds 5 (word.extractLsb' 16 8)))
      (BitVec.ofNat 6 (narrow w.rounds 6 (word.extractLsb' 8 8)))
      (BitVec.ofNat 5 (narrow w.rounds 5 (word.extractLsb' 0 8)))) := by
  simp [Window.encode, Window.fmt_of_code hw rfl, pixelColour]

/-- R10: P15 narrows every channel to 5 bits and stores bit 31 of the word as its key bit. -/
theorem Window.encode_p15 {w : Window} (hw : w.format = 2) (word : Word32) :
    w.encode word = some (.rgb15 (word.getLsbD 31) (BitVec.ofNat 5 (narrow w.rounds 5 (word.extractLsb' 16 8)))
      (BitVec.ofNat 5 (narrow w.rounds 5 (word.extractLsb' 8 8)))
      (BitVec.ofNat 5 (narrow w.rounds 5 (word.extractLsb' 0 8)))) := by
  simp [Window.encode, Window.fmt_of_code hw rfl, pixelColour]

/-- An indexed window stores no channels: its stored value comes from the colour table. -/
theorem Window.encode_indexed {w : Window} (hw : w.format = 3 ∨ w.format = 4) (word : Word32) : w.encode word = none := by
  rcases hw with hw | hw
  · simp [Window.encode, Window.fmt_of_code hw rfl]
  · simp [Window.encode, Window.fmt_of_code hw rfl]

/-! ### The statement -/

/-- Settles O48: each format's stored value and each stored value's pixel word, with the narrowing or widening that the window's
option selects. -/
theorem narrowingAndWidening : Obligations.NarrowingAndWidening := by
  refine ⟨fun w word => ⟨fun hw => Window.encode_p24 hw word, fun hw => Window.encode_indexed hw word⟩,
    fun w t r g b e i => ⟨rfl, rfl, rfl⟩,
    fun word c k => ⟨rfl, pixelColour_pixelWord c k, pixelWord_spare c k⟩, ?narrowing, ?widening⟩
  case narrowing =>
    refine fun w word => ⟨fun hw hr => ?_, fun hw hr => ?_, fun hw hr => ?_, fun hw hr => ?_⟩
    · simp [Window.encode_p16 hw, Window.rounds_of_truncate hr, narrow_truncate]
    · simp [Window.encode_p15 hw, Window.rounds_of_truncate hr, narrow_truncate]
    · simp [Window.encode_p16 hw, Window.rounds_of_round hr, narrow_round]
    · simp [Window.encode_p15 hw, Window.rounds_of_round hr, narrow_round]
  case widening =>
    refine fun w t key r b g5 g => ⟨fun hz => ?_, fun hf => ?_⟩
    · simp [Window.decode, Window.replicates_of_zero hz, widen_zero]
    · simp [Window.decode, Window.replicates_of_replicate hf, widen_replicate]

end Sys2Proof.Machine
end

section
/-! PROOF. The nearest-match search of the colour table (R78): the distance of two colours, and the search's result as the least
candidate in the order of distance, then number. -/

namespace Sys2Proof.Machine

/-! ### Distance -/

/-- R78: the distance of two channels is the absolute difference of their values. -/
theorem channelDistance_cast (a b : Byte) : (channelDistance a b : Int) = |(a.toNat : Int) - b.toNat| := by
  rw [channelDistance, Nat.cast_sub min_le_max, Nat.cast_max, Nat.cast_min, max_sub_min_eq_abs']

theorem channelDistance_le (a b : Byte) : channelDistance a b ≤ 255 := by
  have ha := a.isLt
  have hb := b.isLt
  rw [channelDistance]
  omega

@[simp] theorem channelDistance_eq_zero_iff (a b : Byte) : channelDistance a b = 0 ↔ a = b := by
  rw [← BitVec.toNat_inj, channelDistance]
  omega

theorem distance_cast (c d : Colour) :
    (distance c d : Int) = |(c.r.toNat : Int) - d.r.toNat| + |(c.g.toNat : Int) - d.g.toNat| + |(c.b.toNat : Int) - d.b.toNat| := by
  simp only [distance, Nat.cast_add, channelDistance_cast]

theorem distance_le (c d : Colour) : distance c d ≤ 765 :=
  calc channelDistance c.r d.r + channelDistance c.g d.g + channelDistance c.b d.b
    _ ≤ 255 + 255 + 255 :=
      Nat.add_le_add (Nat.add_le_add (channelDistance_le _ _) (channelDistance_le _ _)) (channelDistance_le _ _)

theorem distance_eq_zero_iff (c d : Colour) : distance c d = 0 ↔ c = d := by
  cases c
  cases d
  simp [distance, and_assoc]

/-! ### The order of the search -/

/-- The place of an entry in a search for a colour: by distance, and among equal distances by number (R78). -/
def ColourTable.rank (t : ColourTable) (c : Colour) (e : EntryId) : ℕ ×ₗ EntryId := toLex (distance c (t.entry e).colour, e)

theorem ColourTable.rank_le_iff {t : ColourTable} {c : Colour} {e f : EntryId} :
    t.rank c e ≤ t.rank c f ↔ distance c (t.entry e).colour < distance c (t.entry f).colour ∨
      distance c (t.entry e).colour = distance c (t.entry f).colour ∧ e ≤ f :=
  Prod.Lex.toLex_le_toLex

/-- A strictly nearer entry comes first, whatever its number. -/
theorem ColourTable.rank_le_of_nearer {t : ColourTable} {c : Colour} {e f : EntryId}
    (h : distance c (t.entry e).colour < distance c (t.entry f).colour) : t.rank c e ≤ t.rank c f :=
  rank_le_iff.mpr (.inl h)

/-- A lower-numbered entry comes first, unless the other is strictly nearer. -/
theorem ColourTable.rank_le_of_lower {t : ColourTable} {c : Colour} {e f : EntryId} (hlt : e < f)
    (h : ¬ distance c (t.entry f).colour < distance c (t.entry e).colour) : t.rank c e ≤ t.rank c f := by
  rcases (not_lt.mp h).lt_or_eq with hd | hd
  · exact rank_le_of_nearer hd
  · exact rank_le_iff.mpr (.inr ⟨hd, hlt.le⟩)

/-- The candidates of a search stand in ascending order: a window's range ascends, and a filter keeps its order. -/
theorem Window.range_filter_ascending (w : Window) (p : EntryId → Bool) : (w.range.filter p).Pairwise (· < ·) :=
  ((List.pairwise_lt_finRange 256).filter w.inRange).filter p

/-! ### One candidate more -/

@[simp] theorem ColourTable.nearest_nil (t : ColourTable) (c : Colour) : t.nearest c [] = none := rfl

/-- The first candidate is the best so far. -/
theorem ColourTable.nearest_concat_of_none {t : ColourTable} {c : Colour} {es : List EntryId} (e : EntryId)
    (h : t.nearest c es = none) : t.nearest c (es ++ [e]) = some e := by
  rw [nearest] at h
  rw [nearest, List.foldl_concat, h]

/-- A later candidate replaces the best so far only where it is strictly nearer. -/
theorem ColourTable.nearest_concat_of_some {t : ColourTable} {c : Colour} {es : List EntryId} {b : EntryId} (e : EntryId)
    (h : t.nearest c es = some b) :
    t.nearest c (es ++ [e]) =
      if distance c (t.entry e).colour < distance c (t.entry b).colour then some e else some b := by
  rw [nearest] at h
  rw [nearest, List.foldl_concat, h]

/-! ### The search's result -/

/-- R78: a search over a non-empty candidate set always yields an entry. -/
theorem ColourTable.nearest_eq_none_iff {t : ColourTable} {c : Colour} {es : List EntryId} :
    t.nearest c es = none ↔ es = [] := by
  induction es using List.reverseRecOn with
  | nil => simp
  | append_singleton es e _ =>
    cases h : t.nearest c es with
    | none => simp [nearest_concat_of_none e h]
    | some b =>
      rw [nearest_concat_of_some e h]
      split <;> simp

/-- R78: over ascending candidates a search yields the first of them in the order of distance, then number. -/
theorem ColourTable.nearest_least {t : ColourTable} {c : Colour} {es : List EntryId} (hes : es.Pairwise (· < ·)) {b : EntryId}
    (hb : t.nearest c es = some b) : b ∈ es ∧ ∀ f ∈ es, t.rank c b ≤ t.rank c f := by
  induction es using List.reverseRecOn generalizing b with
  | nil => simp at hb
  | append_singleton es e ih =>
    obtain ⟨hasc, -, hlower⟩ := List.pairwise_append.mp hes
    cases h : t.nearest c es with
    | none =>
      obtain rfl : e = b := by simpa [nearest_concat_of_none e h] using hb
      simp [nearest_eq_none_iff.mp h]
    | some a =>
      obtain ⟨hmem, hleast⟩ := ih hasc h
      rw [nearest_concat_of_some e h] at hb
      split at hb
      case isTrue hnearer =>
        obtain rfl : e = b := Option.some.inj hb
        have hfirst : ∀ f ∈ es, t.rank c e ≤ t.rank c f := fun f hf => (rank_le_of_nearer hnearer).trans (hleast f hf)
        simpa [or_imp, forall_and] using hfirst
      case isFalse hnot =>
        obtain rfl : a = b := Option.some.inj hb
        have hlast : t.rank c a ≤ t.rank c e := rank_le_of_lower (hlower a hmem e (by simp)) hnot
        simpa [hmem, or_imp, forall_and, hlast] using hleast

/-! ### The statement -/

/-- Settles O49: the candidates of a window ascend, so the search's result is the least of them by distance, then number. -/
theorem nearestMatch : Obligations.NearestMatch := by
  refine ⟨distance_cast, fun c d => ⟨distance_le c d, distance_eq_zero_iff c d⟩,
    fun t c w p => ⟨ColourTable.nearest_eq_none_iff, fun e he => ?_⟩⟩
  obtain ⟨hmem, hleast⟩ := ColourTable.nearest_least (w.range_filter_ascending p) he
  exact ⟨hmem, fun f hf => ColourTable.rank_le_iff.mp (hleast f hf)⟩

end Sys2Proof.Machine
end

section
/-! PROOF. The comparison of a sequence number with the sent counter (R111), by how far the counter stands past the number. -/

namespace Sys2Proof.Machine

/-- R111: the comparison in natural numbers, with the difference taken modulo 65536. -/
theorem reached_iff_mod (sent m : Half) :
    reached sent m = true ↔ (sent.toNat + 65536 - m.toNat) % 65536 < 32768 := by
  have hm : m.toNat < 65536 := m.isLt
  have hdiff : (sent - m).toNat = (sent.toNat + 65536 - m.toNat) % 65536 := by
    rw [BitVec.toNat_sub]
    omega
  rw [reached, decide_eq_true_iff, hdiff]

/-- R111: with the sent counter k numbers past m, m is reached in the first half of the sequence numbers. -/
theorem reached_add_iff (m : Half) (k : Nat) : reached (m + BitVec.ofNat 16 k) m = true ↔ k % 65536 < 32768 := by
  have hdiff : m + BitVec.ofNat 16 k - m = BitVec.ofNat 16 k := add_sub_cancel_left m _
  rw [reached, decide_eq_true_iff, hdiff, BitVec.toNat_ofNat]

/-- R111: a number stays reached while fewer than 32768 further numbers have been sent. -/
theorem reached_add_of_lt {k : Nat} (m : Half) (hk : k < 32768) : reached (m + BitVec.ofNat 16 k) m = true := by
  rw [reached_add_iff]
  omega

/-- R111: with 32768 further numbers sent, a number is no longer reached. -/
theorem reached_add_half (m : Half) : reached (m + BitVec.ofNat 16 32768) m = false := by
  rw [Bool.eq_false_iff, ne_eq, reached_add_iff]
  decide

/-- Settles O32: the comparison is the difference modulo 65536, so its outcome turns on the count of further numbers sent; the
spec's three examples are evaluated. -/
theorem markComparison : Obligations.MarkComparison :=
  ⟨reached_iff_mod, fun m _ hk => reached_add_of_lt m hk, reached_add_half, by decide⟩

end Sys2Proof.Machine
end

section
/-! PROOF. What a command can do, said once: the elementary updates that every event is made of, each under the condition in which
an event makes it. A property that each update keeps is kept by every event, and a law's own proof names only the updates that reach
the block it speaks of. -/

namespace Sys2Proof.Machine

/-! ### Elementary updates -/

/-- The window that the engine's operation is for. -/
def Engine.window? : Engine → Option WindowId
  | .idle => none
  | .filling f => some f.window
  | .releasing r => some r.window

/-- Both engines are idle, both fill one window, or both release one. -/
def Engine.sameOperation : Engine → Engine → Prop
  | .idle, .idle => True
  | .filling f, .filling g => f.window = g.window
  | .releasing r, .releasing q => r.window = q.window
  | _, _ => False

/-- The line with its flush's first phase, in the place that the flush gives it in the gather buffer (R45, R54). -/
def State.flushed (s : State) (l : LineId) (c : FlushCause) : State :=
  { s with
    gather :=
      { s.gather with
        lines := s.gather.lines.set l ((s.line l).inFlush (s.win (s.line l).window) c)
        age := s.gather.age.filter (· != l)
        order := s.gather.order ++ [l] } }

/-- A FREE line taken for a group: its fields are set, and it joins the tail of the age list (R44, R48). -/
def State.taken (s : State) (l : LineId) (x : Line) : State :=
  { s with gather := { s.gather with lines := s.gather.lines.set l x, age := s.gather.age ++ [l] } }

/-- The gather buffer with a line FREE (R42, R66). -/
def Gather.freed (g : Gather) (l : LineId) : Gather :=
  { lines := g.lines.set l Line.blank, age := g.age.filter (· != l), order := g.order.filter (· != l)
    present := if g.present = some l then none else g.present }

/-- The property is kept by the updates that most events are made of, every consequence of an event among them. An update that a
property's own blocks have no part in keeps it as it stands, and need not be named. -/
structure KeptByOps (P : State → Prop) : Prop where
  -- host link
  host : ∀ s x, (s.host.queue.length ≤ 4 → x.queue.length ≤ 4) → P s → P { s with host := x } := by exact fun _ _ _ hs => hs
  responses : ∀ s x, P s → P { s with out := { s.out with responses := x } } := by exact fun _ _ hs => hs
  -- windows and the window engine
  winKept : ∀ s w x, x.state = (s.win w).state → (∀ f, x.getField f = (s.win w).getField f) → P s → P (s.setWin w x) := by
    exact fun _ _ _ _ _ hs => hs
  armPlain : ∀ s w, (s.win w).state = .off → s.meetsOther w = false → P s → P (s.setWin w ((s.win w).armed .armed)) := by
    exact fun _ _ _ _ hs => hs
  armFill : ∀ s w f, (s.win w).state = .off → s.meetsOther w = false → s.engine = .idle → s.port.action.running = none →
      f.window = w → P s → P { s.setWin w ((s.win w).armed .arming) with engine := .filling f } := by
    exact fun _ _ _ _ _ _ _ _ hs => hs
  drainBegin : ∀ s w, (s.win w).state = .armed → P s → P (s.setWindowState w .draining) := by exact fun _ _ _ hs => hs
  drainEnd : ∀ s w, (s.win w).state = .draining → (s.win w).adaptive = false → P s → P (s.setWindowState w .off) := by
    exact fun _ _ _ _ hs => hs
  engineGoes : ∀ s e, s.engine.sameOperation e → P s → P { s with engine := e } := by exact fun _ _ _ hs => hs
  engineRelease : ∀ s r, s.engine = .idle → s.port.action.running = none → (s.win r.window).state = .draining →
      (s.win r.window).adaptive = true → P s → P { s with engine := .releasing r } := by exact fun _ _ _ _ _ _ hs => hs
  engineEnd : ∀ s w st, s.engine.window? = some w → P s → P (State.setWindowState { s with engine := .idle } w st) := by
    exact fun _ _ _ _ hs => hs
  -- gather buffer
  flush : ∀ s l c, (s.line l).state = .gathering → P s → P (s.flushed l c) := by exact fun _ _ _ _ hs => hs
  lineKept : ∀ s l x, x.state = (s.line l).state → x.window = (s.line l).window → x.group = (s.line l).group → P s →
      P (s.setLine l x) := by exact fun _ _ _ _ _ _ hs => hs
  lineTaken : ∀ s l x, (s.line l).state = .free → x.state = .gathering → s.findLine x.window x.group = none → P s → P (s.taken l x) := by
    exact fun _ _ _ _ _ _ hs => hs
  lineFreed : ∀ s l, P s → P { s with gather := s.gather.freed l } := by exact fun _ _ hs => hs
  presents : ∀ s x, P s → P { s with gather := { s.gather with present := x } } := by exact fun _ _ hs => hs
  -- colour table
  countUp : ∀ s e n, P s → P { s with colour := s.colour.addCount e n } := by exact fun _ _ _ hs => hs
  countDown : ∀ s e n, P s → P { s with colour := s.colour.subCount e n } := by exact fun _ _ _ hs => hs
  recolour : ∀ s e c, P s → P { s with colour := s.colour.setEntry e { s.entry e with colour := c } } := by
    exact fun _ _ _ hs => hs
  suspect : ∀ s, P s → P { s with colour := { s.colour with suspect := true } } := by exact fun _ hs => hs
  clearCounts : ∀ s, P s → P { s with colour := s.colour.clearCounts } := by exact fun _ hs => hs
  heldHead : ∀ s e rest, s.colour.held = e :: rest → P s → P { s with colour := { s.colour with held := rest } } := by
    exact fun _ _ _ _ hs => hs
  -- mirror link
  enqueue : ∀ s k e c, s.mirror.link ≠ .detached → s.mirror.hasRoom = true → P s →
      P { s with mirror := s.mirror.enqueue k e c } := by exact fun _ _ _ _ _ _ hs => hs
  enqueueReserved : ∀ s k e c, s.mirror.link ≠ .detached → (s.mirror.reserve = true ∨ s.mirror.hasRoom = true) → P s →
      P { s with mirror := Mirror.enqueue { s.mirror with reserve := false } k e c } := by exact fun _ _ _ _ _ _ hs => hs
  reserve : ∀ s, s.mirror.link ≠ .detached → s.mirror.hasRoom = true → P s →
      P { s with mirror := { s.mirror with reserve := true } } := by exact fun _ _ _ hs => hs
  unreserve : ∀ s, P s → P { s with mirror := { s.mirror with reserve := false } } := by exact fun _ hs => hs
  walks : ∀ s w p, P s → P { s with mirror := { s.mirror with walk := w, pointer := p } } := by exact fun _ _ _ hs => hs
  attach : ∀ s, s.mirror.link = .detached → P s →
      P { s with
        mirror := Mirror.enqueue
          { s.mirror with credits := 0, lost := false, link := .resync, pointer := 0, walk := .entries, stall := 0 }
          .resyncBegin 0 Colour.black } := by exact fun _ _ hs => hs
  detach : ∀ s, P s → P s.detach := by exact fun _ hs => hs
  lost : ∀ s, P s → P { s with mirror := { s.mirror with lost := true } } := by exact fun _ hs => hs
  startSending : ∀ s, s.mirror.link ≠ .detached → P s →
      P { s with mirror := { s.mirror with sending := true, credits := s.mirror.credits - 1 } } := by exact fun _ _ hs => hs
  credit : ∀ s, s.mirror.link ≠ .detached → s.mirror.credits < 8 → P s →
      P { s with mirror := { s.mirror with credits := s.mirror.credits + 1, stall := 0 } } := by exact fun _ _ _ hs => hs
  -- memory link
  issue : ∀ s o, s.link.halted = false → s.link.outstanding.length < 4 → P s →
      P { s with link := { s.link with outstanding := s.link.outstanding ++ [o] } } := by exact fun _ _ _ _ hs => hs
  -- scan unit
  scanKept : ∀ s u, u.state = s.scan.state → u.results = s.scan.results → P s → P { s with scan := u } := by
    exact fun _ _ _ _ hs => hs
  scanBegin : ∀ s u, s.scan.results.length < 4 → u.results = s.scan.results → P s → P { s with scan := u } := by
    exact fun _ _ _ _ hs => hs
  scanReading : ∀ s, s.scan.state = .flushing → P s → P { s with scan := { s.scan with state := .reading } } := by
    exact fun _ _ hs => hs
  scanIdle : ∀ s, P s → P { s with scan := { s.scan with state := .idle } } := by exact fun _ hs => hs
  scanEnd : ∀ s u r, s.scan.reserved = true → u.reserved = false → u.results = s.scan.results ++ [r] → P s →
      P { s with scan := u } := by exact fun _ _ _ _ _ _ hs => hs
  resultPop : ∀ s, P s → P { s with scan := { s.scan with results := s.scan.results.tail } } := by exact fun _ hs => hs
  -- faults
  fault : ∀ s r, P s → P (s.appendFault r) := by exact fun _ _ hs => hs
  faultPop : ∀ s, P s → P { s with faults := s.faults.pop } := by exact fun _ hs => hs
  -- management port
  action : ∀ s a, (a.running = some .softReset ↔ s.port.action.running = some .softReset) → P s →
      P { s with port := { s.port with action := a } } := by exact fun _ _ _ hs => hs
  session : ∀ s x o, (o = none ↔ x = .none) → P s → P ((s.setSdo o).setTxn x) := by exact fun _ _ _ _ hs => hs
  -- soft reset
  softResetBegin : ∀ s, s.port.action.running = none → P s → P s.softResetBegin := by exact fun _ _ hs => hs
  softResetEnd : ∀ s, s.inSoftReset = true → P s → P s.softResetEnd := by exact fun _ _ hs => hs

/-- The property is kept also by the updates that a message sent, and a response or a timeout of the memory link, are made of. -/
structure KeptByLinkOps (P : State → Prop) : Prop extends KeptByOps P where
  headSent : ∀ s m rest, s.mirror.queue = m :: rest → P s → P (s.sendHead m rest) := by exact fun _ _ _ _ hs => hs
  popHead : ∀ s os, os.length ≤ s.link.outstanding.length → P s → P (s.popHead os) := by exact fun _ _ _ hs => hs
  halt : ∀ s, P s → P { s with link := { halted := true, outstanding := [] } } := by exact fun _ hs => hs
  memory : ∀ s m n, (s.memory.wf = true → m.wf = true) → P s → P { s with memory := m, freeCount := n } := by
    exact fun _ _ _ _ hs => hs

/-- The property is kept also by the updates that written and read management bytes are made of. -/
structure KeptByByteOps (P : State → Prop) : Prop extends KeptByOps P where
  field : ∀ s w f n, (f = .quiet ∨ (s.win w).state = .off) → P s → P (s.setWin w ((s.win w).putField f n)) := by
    exact fun _ _ _ _ _ hs => hs
  flags : ∀ s e v, P s → P (s.requestFlags e v) := by exact fun _ _ _ hs => hs
  hold : ∀ s e, s.mirror.link ≠ .detached → e ∉ s.colour.held → P s →
      P { s with colour := { s.colour with held := s.colour.held ++ [e] } } := by exact fun _ _ _ _ hs => hs
  setting : ∀ s k v, P s → P (s.commitSetting k v) := by exact fun _ _ _ hs => hs
  refusal : ∀ s r a, P s → P (s.noteRefusal r a) := by exact fun _ _ _ hs => hs

/-- The property is kept also by a device reset, by a REFCLK period, and by a command taken from the queue. -/
structure KeptByAllOps (P : State → Prop) : Prop extends KeptByLinkOps P, KeptByByteOps P where
  reset : ∀ s, P s → P s.deviceReset
  refLeft : ∀ s n, P s → P { s with refLeft := n } := by exact fun _ _ hs => hs
  tick : ∀ s, P s → P s.tick := by exact fun _ hs => hs
  queue : ∀ s q, P s → P (s.dequeued q) := by exact fun _ _ hs => hs

/-! ### The shared operations -/

section
variable {P : State → Prop} (h : KeptByOps P) {s : State}
include h

theorem KeptByOps.mapHandling (f : Handling → Handling) (hs : P s) : P (s.mapHandling f) := h.host s _ id hs

theorem KeptByOps.endBeat (i : Nat) (r : BeatResult) (hs : P s) : P (s.endBeat i r) := h.mapHandling _ hs

theorem KeptByOps.holdBeat (b : HeldBeat) (hs : P s) : P (s.holdBeat b) := h.mapHandling _ hs

theorem KeptByOps.subCounts (es : List EntryId) (hs : P s) : P { s with colour := s.colour.subCounts es } := by
  induction es generalizing s with
  | nil => exact hs
  | cons e es ih => exact ih (h.countDown s e 1 hs)

theorem KeptByOps.announce (e : EntryId) (hl : s.mirror.link ≠ .detached) (hr : s.mirror.hasRoom = true) (hs : P s) :
    P (s.announce e) := h.enqueue s _ _ _ hl hr hs

theorem KeptByOps.resyncNext (hl : s.mirror.link ≠ .detached) (hr : s.mirror.hasRoom = true) (hs : P s) : P s.resyncNext := by
  unfold State.resyncNext
  split
  · dsimp only
    have ha := h.announce s.mirror.pointer hl hr hs
    split
    · exact h.walks _ .ending _ ha
    · exact h.walks _ _ _ ha
  · exact h.walks _ .over _ (h.enqueue s .resyncEnd 0 Colour.black hl hr hs)
  · exact hs

theorem KeptByOps.fillEnqueue (f : Fill) (he : s.engine = .filling f) (hl : s.mirror.link ≠ .detached)
    (hr : s.mirror.hasRoom = true) (hs : P s) : P (s.fillEnqueue f) :=
  h.engineGoes _ _ (by simp [he, Engine.sameOperation]) (h.announce _ hl hr hs)

end

/-- The fill whose announcement waits is the engine's. -/
theorem State.announcing_eq_some {s : State} {f : Fill} (h : s.announcing = some f) :
    s.engine = .filling f ∧ f.phase = .announce ∧ f.aborted = false := by
  unfold State.announcing at h
  split at h
  · split at h
    · next he hc => cases h; exact ⟨he, by simpa using hc⟩
    · cases h
  · cases h

/-- A line that leaves the wait set of FLUSH_ALL neither begins nor ends a soft reset. -/
theorem Running.leaveWait_softReset (r : Option Running) (l : LineId) :
    r.map (·.leaveWait l) = some .softReset ↔ r = some .softReset := by
  rcases r with _ | (_ | _) <;> simp [Running.leaveWait]

/-- An allocation is chosen only where it finds its place in the mirror queue. -/
theorem State.canAllocate_of_choose {s : State} {b : HeldBeat} {e : EntryId} (h : s.choose b = .allocate e) :
    s.canAllocate = true := by
  unfold State.choose at h
  dsimp only at h
  (repeat' split at h) <;> simp_all

theorem State.freeLineId_free {s : State} {l : LineId} (h : s.freeLineId = some l) : (s.line l).state = .free := by
  simpa using List.find?_some h

section
variable {P : State → Prop} (h : KeptByOps P) {s : State}
include h

theorem KeptByOps.grantPlace (hs : P s) : P s.grantPlace := by
  unfold State.grantPlace
  split
  · exact hs
  · next hc =>
    obtain ⟨hl, hr⟩ : s.mirror.link ≠ .detached ∧ s.mirror.hasRoom = true := by simpa using hc
    split
    · next e rest hh =>
      exact KeptByOps.announce h (s := { s with colour := { s.colour with held := rest } }) e hl hr (h.heldHead s e rest hh hs)
    · split
      · exact h.reserve s hl hr hs
      · split
        · next f hf => exact h.fillEnqueue f (State.announcing_eq_some hf).1 hl hr hs
        · split
          · exact h.resyncNext hl hr hs
          · exact hs

theorem KeptByOps.dropReserve (hs : P s) : P s.dropReserve := by
  unfold State.dropReserve
  split
  · exact h.grantPlace (h.unreserve s hs)
  · exact hs

/-! ### Flushes -/

theorem KeptByOps.startFlush (l : LineId) (c : FlushCause) (hs : P s) : P (s.startFlush l c) := by
  by_cases hg : (s.line l).state = .gathering
  · rw [s.startFlush_gathering l c hg]
    exact h.flush s l c hg hs
  · rwa [s.startFlush_other l c hg]

theorem KeptByOps.claim (p : Line → Bool) (c : FlushCause) (hs : P s) : P (s.claim p c) := by
  refine List.foldlRecOn (motive := P) s.gather.age _ hs fun t ht l _ => ?_
  split
  · exact h.startFlush l c ht
  · exact ht

theorem KeptByOps.freeLine (l : LineId) (hs : P s) : P (s.freeLine l) := by
  let action : ActionStatus := { s.port.action with running := s.port.action.running.map (·.leaveWait l) }
  let scan : ScanUnit := { s.scan with wait := leave l s.scan.wait }
  have hport := h.action { s with gather := s.gather.freed l } action (Running.leaveWait_softReset _ l) (h.lineFreed s l hs)
  have hscan := h.scanKept { s with gather := s.gather.freed l, port := { s.port with action := action } } scan rfl rfl hport
  exact h.host { s with gather := s.gather.freed l, port := { s.port with action := action }, scan := scan }
    { s.host with handling := s.host.handling.map (·.lineFreed l (s.line l).window (s.line l).group) } id hscan

theorem KeptByOps.flushFail (l : LineId) (hs : P s) : P (s.flushFail l) := by
  unfold State.flushFail
  dsimp only
  split
  · exact h.freeLine l (h.subCounts _ (h.fault s _ hs))
  · exact h.freeLine l (h.fault s _ hs)

theorem KeptByOps.flushReadDone (l : LineId) (d : Block) (hs : P s) : P (s.flushReadDone l d) :=
  h.lineKept s l _ rfl rfl rfl hs

theorem KeptByOps.flushWriteDone (l : LineId) (hs : P s) : P (s.flushWriteDone l) := by
  unfold State.flushWriteDone
  dsimp only
  split
  · exact h.freeLine l (h.subCounts _ hs)
  · exact h.freeLine l hs

/-! ### Placement -/

theorem KeptByOps.allocateEntry (e : EntryId) (c : Colour) (hc : s.canAllocate = true) (hs : P s) :
    P (s.allocateEntry e c) := by
  unfold State.allocateEntry
  dsimp only
  have hr := h.recolour s e c hs
  split
  · exact hr
  · next hl =>
    have hl' : s.mirror.link ≠ .detached := by simpa using hl
    have hroom : s.colour.held = [] ∧ (s.mirror.reserve = true ∨ s.mirror.hasRoom = true) := by
      simpa [State.canAllocate, hl'] using hc
    exact h.enqueueReserved { s with colour := s.colour.setEntry e { s.entry e with colour := c } } _ _ _ hl' hroom.2 hr

theorem KeptByOps.slotCounts (w : Window) (v : Stored) (o : Option Stored) (hs : P s) : P (s.slotCounts w v o) := by
  unfold State.slotCounts
  split
  · split
    · exact h.countUp s _ _ hs
    · split
      · exact hs
      · exact h.countDown _ _ _ (h.countUp s _ _ hs)
  · exact hs

theorem KeptByOps.reportWrite (w : WindowId) (hs : P s) : P (s.reportWrite w) := by
  have hw := h.winKept s w { s.win w with dirty := true, timer := .timing 0 } rfl (fun f => by cases f <;> rfl) hs
  unfold State.reportWrite
  dsimp only
  split
  · exact h.scanKept _ _ rfl rfl hw
  · exact hw

theorem KeptByOps.flushAfterWrite (l : LineId) (hs : P s) : P (s.flushAfterWrite l) := by
  unfold State.flushAfterWrite
  dsimp only
  split
  · exact h.startFlush l _ hs
  · split
    · exact h.startFlush l _ hs
    · exact hs

/-- The line that a slot write goes to is the GATHERING line of the beat's group, or a FREE line where no line holds the group. -/
theorem KeptByOps.slotWrite (b : HeldBeat) (l : LineId) (v : Stored)
    (hl : (s.line l).state = .gathering ∨ (s.line l).state = .free ∧ s.findLine b.window b.group = none) (hs : P s) :
    P (s.slotWrite b l v) := by
  refine h.flushAfterWrite l (h.reportWrite _ (h.slotCounts _ _ _ ?_))
  obtain hg | ⟨hf, hn⟩ := hl
  · simp only [hg, Line.target, beq_iff_eq, reduceCtorEq, if_false]
    exact h.lineKept s l _ hg.symm rfl rfl hs
  · simp only [hf, Line.target, beq_self_eq_true, if_true]
    exact h.lineTaken s l _ hf rfl hn hs

theorem KeptByOps.placed (b : HeldBeat) (l : LineId) (v : Stored)
    (hl : (s.line l).state = .gathering ∨ (s.line l).state = .free ∧ s.findLine b.window b.group = none) (hs : P s) :
    P (s.placed b l v) := h.endBeat _ _ (h.slotWrite b l v hl hs)

theorem KeptByOps.store (b : HeldBeat) (l : LineId)
    (hl : (s.line l).state = .gathering ∨ (s.line l).state = .free ∧ s.findLine b.window b.group = none) (hs : P s) :
    P (s.store b l) := by
  unfold State.store
  split
  · exact h.placed b l _ hl hs
  · next e he =>
    refine h.placed b l _ ?_ (h.allocateEntry e _ (State.canAllocate_of_choose he) hs)
    simpa [State.findLine, State.line] using hl
  · exact h.endBeat _ _ hs
  · exact h.holdBeat _ hs
  · exact h.holdBeat _ (h.claim _ _ hs)

theorem KeptByOps.attempt (b : HeldBeat) (hs : P s) : P (s.attempt b) := by
  refine h.dropReserve ?_
  unfold State.attemptCore
  split
  · split
    · next l _ hg => exact h.store b l (.inl (by simpa using hg)) hs
    · exact h.holdBeat _ hs
  · next hn =>
    split
    · next l hl => exact h.store b l (.inr ⟨State.freeLineId_free hl, hn⟩) hs
    · refine h.holdBeat _ ?_
      unfold State.evict
      split
      · exact h.startFlush _ _ hs
      · exact hs

end

/-! ### The window engine and the scan unit -/

/-- The end of a scan steps a window's epoch and nothing else of any window (R143). -/
theorem State.scanEnd_win (s : State) (st : ResultStatus) (c : Word32) (v : WindowId) :
    ∃ k, (s.scanEnd st c).win v = { s.win v with epoch := k } := by
  unfold State.scanEnd
  split
  · by_cases hv : s.scan.window = v
    · exact ⟨(s.win v).epoch + 1, by subst hv; exact (State.win_setWin s _ _ _).trans (if_pos rfl)⟩
    · exact ⟨(s.win v).epoch, (State.win_setWin s _ _ _).trans (if_neg hv)⟩
  · exact ⟨(s.win v).epoch, rfl⟩

/-- An accepted DISARM changes no window before its own transition but in what a scan and a quiet timer keep there (R135, R144). -/
theorem State.disarmed_win (s : State) (w v : WindowId) :
    ∃ p q k, (s.disarmed w).win v = { s.win v with pending := p, timer := q, epoch := k } := by
  have hset : ∃ p q, (s.setWin w { s.win w with pending := false, timer := .idle }).win v =
      { s.win v with pending := p, timer := q } := by
    by_cases hv : w = v
    · exact ⟨false, .idle, by subst hv; simp⟩
    · exact ⟨(s.win v).pending, (s.win v).timer, by simp [hv]⟩
  obtain ⟨p, q, hset⟩ := hset
  unfold State.disarmed State.scanAbort
  split
  · obtain ⟨k, hk⟩ := (s.setWin w { s.win w with pending := false, timer := .idle }).scanEnd_win .aborted 0 v
    exact ⟨p, q, k, by rw [hk, hset]⟩
  · exact ⟨p, q, (s.win v).epoch, hset⟩

section
variable {P : State → Prop} (h : KeptByOps P) {s : State}
include h

theorem KeptByOps.engineIssued (hs : P s) : P s.engineIssued := by
  unfold State.engineIssued
  split
  · exact hs
  · next f he => exact h.engineGoes s _ (by simp [he, Engine.sameOperation]) hs
  · next r he => exact h.engineGoes s _ (by simp [he, Engine.sameOperation]) hs

theorem KeptByOps.engineFail (a : Word32) (hs : P s) : P (s.engineFail a) := by
  unfold State.engineFail
  split
  · exact hs
  · next f he =>
    split
    · exact h.engineGoes s _ (by simp [he, Engine.sameOperation]) hs
    · exact hs
  · next r he =>
    split
    · exact h.engineGoes s _ (by simp [he, Engine.sameOperation]) hs
    · exact hs

theorem KeptByOps.fillUndo {f : Fill} (he : s.engine = .filling f) (hs : P s) : P (s.fillUndo f) :=
  h.engineEnd { s with colour := s.colour.subCount (s.win f.window).fillEntryId (s.win f.window).pixels.toNat } f.window .off
    (by simp [he, Engine.window?]) (h.countDown s _ _ hs)

theorem KeptByOps.engineFinish (hs : P s) : P s.engineFinish := by
  unfold State.engineFinish
  split
  · exact hs
  · split
    · exact hs
    · next f he =>
      split
      · exact h.fault _ _ (h.fillUndo he hs)
      · split
        · exact h.fillUndo he hs
        · split
          · exact h.engineEnd s f.window .armed (by simp [he, Engine.window?]) hs
          · exact hs
    · next r he =>
      split
      · exact h.fault _ _ (h.engineEnd { s with colour := { s.colour with suspect := true } } r.window .off
          (by simp [he, Engine.window?]) (h.suspect s hs))
      · split
        · exact h.engineEnd s r.window .off (by simp [he, Engine.window?]) hs
        · exact hs

theorem KeptByOps.releaseReadDone (q : MemRequest) (d : Block) (hs : P s) : P (s.releaseReadDone q d) := by
  unfold State.releaseReadDone
  split
  · next r he =>
    split
    · exact hs
    · exact h.engineGoes { s with colour := s.colour.subCounts _ } _ (by simp [he, Engine.sameOperation]) (h.subCounts _ hs)
  · exact hs

theorem KeptByOps.scanEnds (st : ResultStatus) (c : Word32) (hs : P s) : P (s.scanEnd st c) := by
  unfold State.scanEnd
  split
  · next hr =>
    dsimp only
    have hw := h.winKept s s.scan.window { s.win s.scan.window with epoch := (s.win s.scan.window).epoch + 1 } rfl
      (fun f => by cases f <;> rfl) hs
    refine h.scanEnd _ _ _ hr ?_ rfl hw
    simp only [ScanUnit.reserved]
    split <;> rfl
  · exact hs

theorem KeptByOps.scanFeed (q : MemRequest) (d : Block) (hs : P s) : P (s.scanFeed q d) := by
  unfold State.scanFeed
  dsimp only
  split
  · exact h.scanEnds _ _ (h.scanKept s _ rfl rfl hs)
  · exact h.scanKept s _ rfl rfl hs

theorem KeptByOps.scanReply (q : MemRequest) (d : Option Block) (hs : P s) : P (s.scanReply q d) := by
  unfold State.scanReply
  split
  · split
    · exact h.scanFeed _ _ hs
    · exact h.scanEnds _ _ hs
  · unfold State.scanDiscard
    split
    · exact hs
    · exact h.scanIdle s hs
  · exact hs

theorem KeptByOps.scanAbort (w : WindowId) (hs : P s) : P (s.scanAbort w) := by
  unfold State.scanAbort
  split
  · exact h.scanEnds _ _ hs
  · exact hs

/-! ### Host ingress -/

theorem KeptByOps.respond (r : HostResponse) (hs : P s) : P (s.respond r) :=
  h.responses { s with host := HostSide.takeWaiting { s.host with queue := s.host.queue.tail, handling := none } } _
    (h.host s _ (fun hq => HostSide.takeWaiting_length _ (by simpa using Nat.le_succ_of_le hq)) hs)

theorem KeptByOps.groupReadDone (id : Nat) (d : Block) (hs : P s) : P (s.groupReadDone id d) := by
  unfold State.groupReadDone
  split
  · exact hs
  · split
    · exact hs
    · exact h.mapHandling _ hs

theorem KeptByOps.groupRead (x : Handling) (w : WindowId) (g i : Nat) (hs : P s) : P (s.groupRead x w g i) := by
  unfold State.groupRead
  split
  · split <;> exact h.endBeat _ _ hs
  · exact h.mapHandling _ hs

theorem KeptByOps.passBeat (r : HostRequest) (i : Nat) (hs : P s) : P (s.passBeat r i) := by
  unfold State.passBeat
  dsimp only
  split
  · exact h.mapHandling _ hs
  · exact h.mapHandling _ (h.claim _ _ hs)

theorem KeptByOps.handleBeat (x : Handling) (r : HostRequest) (i : Nat) (hs : P s) : P (s.handleBeat x r i) := by
  unfold State.handleBeat
  split
  · exact h.passBeat r i hs
  · exact h.endBeat _ _ hs
  · split
    · unfold State.readBeat
      dsimp only
      split
      · exact h.endBeat _ _ hs
      · exact h.groupRead _ _ _ _ hs
    · unfold State.writeBeat
      split
      · exact h.attempt _ hs
      · split <;> exact h.endBeat _ _ hs

/-! ### The memory link -/

theorem KeptByOps.markIssued (q : Requester) (hs : P s) : P (s.markIssued q) := by
  unfold State.markIssued
  split
  · exact h.lineKept _ _ _ rfl rfl rfl (h.presents s none hs)
  · exact h.lineKept _ _ _ rfl rfl rfl (h.presents s none hs)
  · exact h.mapHandling _ hs
  · exact h.mapHandling _ hs
  · exact h.mapHandling _ hs
  · exact h.engineIssued hs
  · exact h.engineIssued hs
  · exact h.scanKept s _ rfl rfl hs

theorem KeptByOps.deliverOk (o : Outstanding) (d : Block) (hs : P s) : P (s.deliverOk o d) := by
  unfold State.deliverOk
  split
  · exact h.flushReadDone _ _ hs
  · exact h.flushWriteDone _ hs
  · exact h.groupReadDone _ _ hs
  · exact h.mapHandling _ hs
  · exact hs
  · exact h.engineFinish hs
  · exact h.engineFinish (h.releaseReadDone _ _ hs)
  · exact h.scanReply _ _ hs

theorem KeptByOps.failPresented (e : Option (MemRequest × Requester)) (hs : P s) : P (s.failPresented e) := by
  unfold State.failPresented
  extract_lets t₁ t₂ t₃
  have h₁ : P t₁ := by
    dsimp only [t₁]
    split
    · exact h.flushFail _ hs
    · exact hs
  have h₂ : P t₂ := by
    dsimp only [t₂]
    split
    · exact h.mapHandling _ h₁
    · exact h₁
  have h₃ : P t₃ := by
    dsimp only [t₃]
    split
    · exact h.engineFinish (h.engineFail _ h₂)
    · exact h₂
  split
  · exact h.scanEnds _ _ h₃
  · exact h₃

end

section
variable {P : State → Prop} (h : KeptByLinkOps P) {s : State}
include h

theorem KeptByLinkOps.postedFail (r : MemRequest) (hs : P s) : P (s.postedFail r) := by
  unfold State.postedFail
  split
  · exact h.fault s _ hs
  · exact h.fault _ _ (h.memory s s.memory _ id hs)

theorem KeptByLinkOps.deliverError (o : Outstanding) (wait : Bool) (hs : P s) : P (s.deliverError o wait) := by
  unfold State.deliverError
  split
  · exact h.flushFail _ hs
  · exact h.flushFail _ hs
  · exact h.mapHandling _ hs
  · exact h.mapHandling _ hs
  · exact h.postedFail _ hs
  · split
    · exact h.engineFail _ hs
    · exact h.engineFinish (h.engineFail _ hs)
  · split
    · exact h.engineFail _ hs
    · exact h.engineFinish (h.engineFail _ hs)
  · exact h.scanReply _ _ hs

theorem KeptByLinkOps.performed (o : Outstanding) (hs : P s) : P (s.performed o) := by
  unfold State.performed
  split
  · exact h.memory s _ s.freeCount (s.memory.perform_wf o.req) hs
  · exact hs

theorem KeptByLinkOps.lateWrites (hs : P s) : P s.lateWrites := by
  refine List.foldlRecOn (motive := P) s.link.outstanding _ hs fun t ht o _ => ?_
  unfold State.lateWrite
  split
  · exact h.memory t _ _ (fun hm => by split; exacts [t.memory.perform_wf _ hm, hm]) ht
  · exact ht

theorem KeptByLinkOps.respondMemory (r : MemReply) (hs : P s) : P (s.respondMemory r) := by
  unfold State.respondMemory
  split
  · exact h.fault s _ hs
  · next o rest hl =>
    dsimp only
    have hp := h.popHead s rest (by simp [hl]) hs
    split
    · split
      · exact h.performed o hp
      · exact h.deliverOk _ _ (h.performed o hp)
    · split
      · exact hp
      · exact h.deliverError _ _ hp

theorem KeptByLinkOps.failAll (wait : Bool) (os : List Outstanding) (hl : os.length ≤ s.link.outstanding.length) (hs : P s) :
    P (s.failAll wait os) := by
  induction os generalizing s with
  | nil => exact hs
  | cons o os ih =>
    unfold State.failAll
    dsimp only
    have hp := h.popHead s os (Nat.le_of_succ_le hl) hs
    split
    · exact ih (by simp [State.popHead]) hp
    · exact ih (by simp [State.popHead]) (h.deliverError _ _ hp)

theorem KeptByLinkOps.expireMemory (o : Outstanding) (hs : P s) : P (s.expireMemory o) := by
  have hlate := h.lateWrites (h.fault s { FaultRecord.bare .memoryTimeout with addr := some o.req.addr } hs)
  exact h.failPresented _ (h.halt _ (h.failAll _ s.link.outstanding (by simp) hlate))

end

/-! ### Actions -/

section
variable {P : State → Prop} (h : KeptByOps P) {s t : State}
include h

theorem KeptByOps.judgeArm {w : WindowId} (hrun : s.port.action.running = none) (ht : s.judgeArm w = .accept t) (hs : P s) :
    P t := by
  unfold State.judgeArm at ht
  dsimp only at ht
  split at ht
  · cases ht
  next huse =>
  split at ht
  · cases ht
  split at ht
  · cases ht
  next hmeet =>
  have hoff : (s.win w).state = .off := by simpa [Window.inUse] using huse
  have hmeet : s.meetsOther w = false := by simpa using hmeet
  split at ht
  · cases ht
    exact h.mapHandling _ (h.armPlain s w hoff hmeet hs)
  · split at ht
    · cases ht
    · next he =>
      cases ht
      have hfill := h.armFill s w
        { window := w, phase := .announce, next := (s.win w).memLo, failed := none, aborted := false } hoff hmeet
        (not_not.mp he) hrun rfl hs
      exact h.mapHandling _ (h.countUp _ (s.win w).fillEntryId (s.win w).pixels.toNat hfill)

theorem KeptByOps.disarmed (w : WindowId) (hs : P s) : P (s.disarmed w) :=
  h.scanAbort w (h.winKept s w _ rfl (fun f => by cases f <;> rfl) hs)

theorem KeptByOps.abortFill (w : WindowId) (hs : P s) : P (s.abortFill w) := by
  unfold State.abortFill
  split
  · next f he =>
    split
    · exact h.engineFinish (h.engineGoes s _ (by simp [he, Engine.sameOperation]) hs)
    · exact hs
  · exact hs

theorem KeptByOps.drain {w : WindowId} (hw : (s.win w).state = .armed) (hs : P s) : P (s.drain w) :=
  h.claim _ _ (h.drainBegin s w hw hs)

theorem KeptByOps.judgeDisarm {w : WindowId} (hrun : s.port.action.running = none) (ht : s.judgeDisarm w = .accept t)
    (hs : P s) : P t := by
  obtain ⟨p, q, k, hwin⟩ := s.disarmed_win w w
  have hd := h.disarmed w hs
  unfold State.judgeDisarm at ht
  dsimp only at ht
  split at ht
  · cases ht; exact hd
  · cases ht; exact h.abortFill w hd
  · cases ht
  · next ha =>
    have hdrain := h.drain (w := w) (by simp [hwin, ha]) hd
    split at ht
    · cases ht; exact hdrain
    · next hadapt =>
      split at ht
      · cases ht
      · next he =>
        cases ht
        have hwin' : (((s.disarmed w).drain w).win w) = { (s.disarmed w).win w with state := .draining } := by
          rw [State.drain, State.win_congr (State.claim_fields _ _ _).2.1]
          simp [State.setWindowState]
        refine h.engineRelease _ _ (by simpa using he) (by simpa using hrun) ?_ ?_ hdrain
        · rw [hwin']
        · rw [hwin', hwin]
          exact (by simpa using hadapt : (s.win w).adaptive = true)

/-- Every action that its own rule accepts is made of the elementary updates. -/
theorem KeptByOps.ownRule {code v : Byte} (hrun : s.port.action.running = none) (ht : s.ownRule code v = .accept t)
    (hs : P s) : P t := by
  unfold State.ownRule at ht
  split at ht
  · exact h.judgeArm hrun ht hs
  · exact h.judgeDisarm hrun ht hs
  · unfold State.judgeScan at ht
    dsimp only at ht
    split at ht
    · cases ht
    · split at ht <;> cases ht
      · exact hs
      · exact h.winKept s _ _ rfl (fun f => by cases f <;> rfl) hs
  · cases ht
    exact h.action _ _ (by simp [hrun]) (h.claim _ _ hs)
  · unfold State.judgeAttach at ht
    split at ht <;> cases ht
    next hl => exact h.attach s (not_not.mp hl) hs
  · unfold State.judgeDetach at ht
    split at ht <;> cases ht
    · exact hs
    · exact h.detach s hs
  · unfold State.judgeRecount at ht
    split at ht <;> cases ht
    exact h.clearCounts s hs
  · cases ht; exact h.faultPop s hs
  · cases ht; exact h.resultPop s hs
  · cases ht; exact h.softResetBegin s hrun hs

theorem KeptByOps.noteAction (o : ActionOutcome) (r : Option Reason) (code : Byte) (hs : P s) : P (s.noteAction o r code) :=
  h.action s _ Iff.rfl hs

theorem KeptByOps.commitAction (code v : Byte) (hs : P s) : P (s.commitAction code v) := by
  unfold State.commitAction
  split
  · exact h.noteAction _ _ _ hs
  · next t ht =>
    refine h.noteAction _ _ _ ?_
    unfold State.judge at ht
    split at ht
    · cases ht
    next hrun =>
    split at ht
    · cases ht
    split at ht
    · cases ht
    · exact h.ownRule (by simpa using hrun) ht hs

/-- In a void transaction a byte is shifted out and nothing else changes. -/
theorem KeptByOps.shiftOut_void (v : Byte) (hv : s.port.txn = .void) (hs : P s) : P (s.shiftOut v) := by
  have he : s.shiftOut v = (s.setSdo (some (s.out.sdo.getD [] ++ [v]))).setTxn .void := by rw [← hv]; rfl
  rw [he]
  exact h.session s .void _ (by simp) hs

theorem KeptByOps.actionCommand (code v : Byte) (hs : P s) : P (s.actionCommand code v) := by
  unfold State.actionCommand
  split
  · next hv => exact h.shiftOut_void 0 hv hs
  · exact h.commitAction code v (h.session s (.data actionStream) (some actionSdo) (by simp) hs)

/-! ### Events -/

theorem KeptByOps.request (ht : s.requestEvent = some t) (hs : P s) : P t := by
  unfold State.requestEvent at ht
  split at ht
  · split at ht <;> cases ht
    · exact h.host s _ id hs
    · exact h.respond _ hs
  · cases ht

theorem KeptByOps.beat (ht : s.beatEvent = some t) (hs : P s) : P t := by
  unfold State.beatEvent at ht
  split at ht
  · split at ht <;> cases ht
    exact h.handleBeat _ _ _ hs
  · cases ht

theorem KeptByOps.retry (ht : s.retryEvent = some t) (hs : P s) : P t := by
  unfold State.retryEvent at ht
  split at ht
  · cases ht
  · split at ht
    · split at ht <;> cases ht
      exact h.attempt _ hs
    · cases ht

theorem KeptByOps.run (ht : s.runIssueEvent = some t) (hs : P s) : P t := by
  unfold State.runIssueEvent at ht
  split at ht
  · cases ht
  · split at ht
    · split at ht <;> cases ht
      exact h.mapHandling _ hs
    · cases ht

theorem KeptByOps.response (ht : s.responseEvent = some t) (hs : P s) : P t := by
  unfold State.responseEvent at ht
  split at ht
  · split at ht <;> cases ht
    exact h.respond _ hs
  · cases ht

theorem KeptByOps.grant (ht : s.grantEvent = some t) (hs : P s) : P t := by
  unfold State.grantEvent at ht
  split at ht
  · next hc =>
    obtain ⟨p, -, rfl⟩ := Option.map_eq_some_iff.mp ht
    exact h.issue _ _ (by simpa using hc.1) (by simpa [Config.outstandingPlaces] using hc.2) (h.markIssued _ hs)
  · cases ht

theorem KeptByOps.idle {l : LineId} (ht : s.idleEvent l = some t) (hs : P s) : P t := by
  unfold State.idleEvent at ht
  split at ht <;> cases ht
  exact h.startFlush _ _ hs

theorem KeptByOps.mirrorWait {l : LineId} (ht : s.mirrorWaitEvent l = some t) (hs : P s) : P t := by
  unfold State.mirrorWaitEvent at ht
  dsimp only at ht
  split at ht <;> cases ht
  exact h.lineKept s l _ rfl rfl rfl hs

theorem KeptByOps.flushPresent (ht : s.presentEvent = some t) (hs : P s) : P t := by
  unfold State.presentEvent at ht
  split at ht
  · cases ht
  · split at ht <;> cases ht
    exact h.presents s _ hs

theorem KeptByOps.halted (ht : s.haltedEvent = some t) (hs : P s) : P t := by
  unfold State.haltedEvent at ht
  split at ht
  · split at ht
    · cases ht; exact h.flushFail _ hs
    · split at ht
      · cases ht; exact h.mapHandling _ hs
      · split at ht
        · cases ht; exact h.engineFinish (h.engineFail _ hs)
        · split at ht <;> cases ht
          exact h.scanEnds _ _ hs
  · cases ht

theorem KeptByOps.drained {w : WindowId} (ht : s.drainEvent w = some t) (hs : P s) : P t := by
  unfold State.drainEvent at ht
  split at ht <;> cases ht
  next hc =>
  simp only [Bool.and_eq_true, beq_iff_eq, Bool.not_eq_true'] at hc
  obtain ⟨⟨⟨⟨hd, ha⟩, -⟩, -⟩, -⟩ := hc
  exact h.drainEnd s w hd ha hs

theorem KeptByOps.release2 (ht : s.release2Event = some t) (hs : P s) : P t := by
  unfold State.release2Event at ht
  split at ht
  · next r he =>
    split at ht <;> cases ht
    exact h.engineGoes s _ (by simp [he, Engine.sameOperation]) hs
  · cases ht

theorem KeptByOps.fillAnnounce (ht : s.fillAnnounceEvent = some t) (hs : P s) : P t := by
  unfold State.fillAnnounceEvent at ht
  split at ht
  · cases ht
  · next f hf =>
    have he := (State.announcing_eq_some hf).1
    split at ht
    · cases ht
      exact h.engineGoes s _ (by simp [he, Engine.sameOperation]) hs
    · next hl =>
      split at ht <;> cases ht
      next hr => exact h.fillEnqueue f he (by simpa using hl) hr hs

theorem KeptByOps.fillPhase2 (ht : s.fillPhase2Event = some t) (hs : P s) : P t := by
  unfold State.fillPhase2Event at ht
  split at ht
  · next f he =>
    split at ht
    · split at ht <;> cases ht
      exact h.engineGoes s _ (by simp [he, Engine.sameOperation]) hs
    · cases ht
  · cases ht

theorem KeptByOps.start (ht : s.startEvent = some t) (hs : P s) : P t := by
  unfold State.startEvent at ht
  split at ht <;> cases ht
  next hc => exact h.startSending s hc.1 hs

theorem KeptByOps.resync (ht : s.resyncEvent = some t) (hs : P s) : P t := by
  unfold State.resyncEvent at ht
  split at ht <;> cases ht
  next hc =>
  simp only [Bool.and_eq_true, Mirror.walking, beq_iff_eq] at hc
  obtain ⟨⟨⟨⟨⟨hl, -⟩, hr⟩, -⟩, -⟩, -⟩ := hc
  exact h.resyncNext (by simp [hl]) hr hs

theorem KeptByOps.credits (hs : P s) : P s.credit := by
  unfold State.credit
  split
  · exact hs
  · next hl =>
    split
    · next hc => exact h.credit s hl hc hs
    · exact h.fault s _ hs

theorem KeptByOps.stall (ht : s.stallEvent = some t) (hs : P s) : P t := by
  unfold State.stallEvent at ht
  split at ht <;> cases ht
  exact h.fault _ _ (h.lost _ (h.detach s hs))

theorem KeptByOps.quiet {w : WindowId} (ht : s.quietEvent w = some t) (hs : P s) : P t := by
  unfold State.quietEvent at ht
  split at ht <;> cases ht
  refine h.winKept s w _ ?_ (fun f => ?_) hs
  · unfold Window.quietExpired; split <;> rfl
  · unfold Window.quietExpired; split <;> cases f <;> rfl

theorem KeptByOps.scanStart (ht : s.scanStartEvent = some t) (hs : P s) : P t := by
  unfold State.scanStartEvent at ht
  split at ht
  · next hc =>
    obtain ⟨w, -, rfl⟩ := Option.map_eq_some_iff.mp ht
    simp only [Bool.and_eq_true, decide_eq_true_eq] at hc
    refine h.scanBegin _ _ ?_ rfl (h.claim _ _ (h.winKept s w _ rfl (fun f => by cases f <;> rfl) hs))
    simpa [Config.resultPlaces] using hc.1.2
  · cases ht

theorem KeptByOps.scanReads (ht : s.scanReadingEvent = some t) (hs : P s) : P t := by
  unfold State.scanReadingEvent at ht
  split at ht <;> cases ht
  next hc => exact h.scanReading s (by simpa using (Bool.and_eq_true_iff.mp hc).1) hs

theorem KeptByOps.flushAll (ht : s.flushAllEvent = some t) (hs : P s) : P t := by
  unfold State.flushAllEvent at ht
  split at ht <;> cases ht
  next hc => exact h.action s _ (by simp [beq_iff_eq.mp hc]) hs

theorem KeptByOps.softReset (ht : s.softResetEvent = some t) (hs : P s) : P t := by
  unfold State.softResetEvent at ht
  split at ht <;> cases ht
  next hc => exact h.softResetEnd s (Bool.and_eq_true_iff.mp hc).1 hs

theorem KeptByOps.present (r : HostRequest) (hs : P s) : P (s.presentRequest r) :=
  h.host s _ (fun hq => HostSide.takeWaiting_length _ hq) hs

end

/-! ### Management bytes -/

/-- After a data byte has been shifted out, SDO has carried something in the transaction. -/
theorem State.openByte_shiftOut (s : State) (b : Bool) (a : Half) (v : Byte) :
    ∃ o, (s.openByte b a).shiftOut v = s.setSdo (some o) := by
  unfold State.openByte
  split
  · exact ⟨_, rfl⟩
  · exact ⟨_, rfl⟩

/-- A read of a management byte sets the transaction and what SDO has carried, and notes a refusal at most (R160, R161). -/
theorem State.readByte_cases (s : State) (a : Half) :
    ∃ x o, x ≠ .none ∧ (s.readByte a = (s.setSdo (some o)).setTxn x ∨
      s.readByte a = ((s.setSdo (some o)).setTxn x).noteRefusal .boundary a) := by
  have hopen (x : Transaction) (v : Byte) : ∃ o, ((s.openByte false a).setTxn x).shiftOut v = (s.setSdo (some o)).setTxn x := by
    obtain ⟨o, ho⟩ := s.openByte_shiftOut false a v
    exact ⟨o, by rw [← ho]; rfl⟩
  unfold State.readByte
  split
  · next hv =>
    exact ⟨.void, s.out.sdo.getD [] ++ [0], by simp, .inl (by rw [← hv]; rfl)⟩
  · extract_lets _ t
    have hplain (y : Stream) (v : Byte) : ∃ x o, x ≠ Transaction.none ∧
        (((s.openByte false a).setTxn (.data y)).shiftOut v = (s.setSdo (some o)).setTxn x ∨
          ((s.openByte false a).setTxn (.data y)).shiftOut v = ((s.setSdo (some o)).setTxn x).noteRefusal .boundary a) := by
      obtain ⟨o, ho⟩ := hopen (.data y) v
      exact ⟨.data y, o, by simp, .inl ho⟩
    unfold State.readStream
    split
    · exact hplain t 0
    · split
      · exact hplain t 0
      · split
        · unfold State.readWithin
          dsimp only
          split
          · exact hplain t _
          · split
            · exact hplain { t with capture := _ } _
            · exact hplain t _
        · obtain ⟨o, ho⟩ := hopen (.data t.stop) 0
          exact ⟨.data t.stop, o, by simp, .inr (by rw [← ho]; rfl)⟩

section
variable {P : State → Prop} (h : KeptByLinkOps P) {s t : State}
include h

theorem KeptByLinkOps.timeout (ht : s.timeoutEvent = some t) (hs : P s) : P t := by
  unfold State.timeoutEvent at ht
  split at ht
  · cases ht
  · split at ht <;> cases ht
    exact h.expireMemory _ hs

theorem KeptByLinkOps.sent (ht : s.sentEvent = some t) (hs : P s) : P t := by
  unfold State.sentEvent at ht
  split at ht
  · cases ht
  · next m rest hq =>
    split at ht <;> cases ht
    exact h.grantPlace (h.headSent s m rest hq hs)

end

theorem KeptByAllOps.refclk {P : State → Prop} (h : KeptByAllOps P) {s : State} (hs : P s) : P s.refclk := by
  unfold State.refclk
  split
  · exact h.tick _ (h.refLeft s _ hs)
  · exact h.refLeft s _ hs

section
variable {P : State → Prop} (h : KeptByByteOps P) {s : State}
include h

theorem KeptByByteOps.setTxn (x : Stream) (ho : s.out.sdo ≠ none) (hs : P s) : P (s.setTxn (.data x)) :=
  h.session s (.data x) s.out.sdo (by simp [ho]) hs

theorem KeptByByteOps.commitField (st : Staged) (w : WindowId) (f : WinField) (v : Byte) (hs : P s) :
    P (s.commitField st w f v) := by
  unfold State.commitField
  dsimp only
  split
  · next hf =>
    split
    · exact h.field s w f _ (.inl hf) hs
    · exact h.refusal s _ _ hs
  · split
    · next hoff => exact h.field s w f _ (.inr hoff) hs
    · exact h.refusal s _ _ hs

theorem KeptByByteOps.announceWrite (e : EntryId) (hs : P s) : P (s.announceWrite e) := by
  unfold State.announceWrite
  split
  · exact hs
  · next hl =>
    have hl : s.mirror.link ≠ .detached := by simpa using hl
    split
    · next hc => exact h.toKeptByOps.announce e hl (Bool.and_eq_true_iff.mp hc).1 hs
    · split
      · exact hs
      · next hc => exact h.hold s e hl (by simpa using hc) hs

theorem KeptByByteOps.commitEntry (st : Staged) (e : EntryId) (v : Byte) (hs : P s) : P (s.commitEntry st e v) := by
  unfold State.commitEntry
  split
  · refine h.flags _ e v ?_
    unfold State.requestColour
    split
    · exact h.refusal s _ _ hs
    · exact h.announceWrite e (h.recolour s e _ hs)
  · exact h.flags s e v hs

theorem KeptByByteOps.writeWithin (x : Stream) (r : Region) (a : Half) (v : Byte) (ho : s.out.sdo ≠ none) (hs : P s) :
    P (s.writeWithin x r a v) := by
  have hstaged (st : Staged) : P (s.setStaged x st) := h.setTxn _ ho hs
  unfold State.writeWithin
  split
  · exact h.refusal s _ _ hs
  · exact hstaged _
  · exact h.commitField _ _ _ _ (hstaged [])
  · exact h.commitEntry _ _ _ (hstaged [])
  · exact h.setting _ _ _ (hstaged [])
  · exact h.toKeptByOps.commitAction _ _ (hstaged [])

theorem KeptByByteOps.writeByte (a : Half) (v : Byte) (hs : P s) : P (s.writeByte a v) := by
  unfold State.writeByte
  split
  · next hv => exact h.toKeptByOps.shiftOut_void 0 hv hs
  · extract_lets _ t
    obtain ⟨o, ho⟩ := s.openByte_shiftOut true a 0
    rw [ho]
    have hopen := h.session s (.data t) (some o) (by simp) hs
    have hsdo : ((s.setSdo (some o)).setTxn (.data t)).out.sdo ≠ none := by simp [State.setSdo, State.setTxn]
    unfold State.writeStream
    split
    · exact hopen
    · split
      · exact h.refusal _ _ _ (h.setTxn _ hsdo hopen)
      · split
        · exact h.writeWithin _ _ _ _ hsdo hopen
        · exact h.refusal _ _ _ (h.setTxn _ hsdo hopen)

theorem KeptByByteOps.readByte (a : Half) (hs : P s) : P (s.readByte a) := by
  obtain ⟨x, o, hx, he | he⟩ := s.readByte_cases a
  · rw [he]
    exact h.session s x (some o) (by simp [hx]) hs
  · rw [he]
    exact h.refusal _ _ _ (h.session s x (some o) (by simp [hx]) hs)

theorem KeptByByteOps.beginKind (k : Byte) (hs : P s) : P (s.beginKind k) := by
  unfold State.beginKind
  split
  · exact h.refusal _ _ _ (h.session s .void _ (by simp) hs)
  · exact h.session s .none none (by simp) hs

end

/-- A property that every elementary update keeps is kept by every event, and with it by every step. -/
theorem KeptByAllOps.events {P : State → Prop} (h : KeptByAllOps P) : KeptByEvents P where
  queue := h.queue
  deviceReset := h.reset
  present _ r hs := h.present r hs
  request _ _ hs ht := h.request ht hs
  beat _ _ hs ht := h.beat ht hs
  retry _ _ hs ht := h.retry ht hs
  run _ _ hs ht := h.run ht hs
  response _ _ hs ht := h.response ht hs
  grant _ _ hs ht := h.grant ht hs
  reply _ r hs := h.respondMemory r hs
  timeout _ _ hs ht := h.timeout ht hs
  idle _ _ _ hs ht := h.idle ht hs
  mirrorWait _ _ _ hs ht := h.mirrorWait ht hs
  flushPresent _ _ hs ht := h.flushPresent ht hs
  halted _ _ hs ht := h.halted ht hs
  drain _ _ _ hs ht := h.drained ht hs
  release2 _ _ hs ht := h.release2 ht hs
  fillAnnounce _ _ hs ht := h.fillAnnounce ht hs
  fillPhase2 _ _ hs ht := h.fillPhase2 ht hs
  start _ _ hs ht := h.start ht hs
  sent _ _ hs ht := h.sent ht hs
  resync _ _ hs ht := h.resync ht hs
  credit _ hs := h.credits hs
  stall _ _ hs ht := h.stall ht hs
  quiet _ _ _ hs ht := h.quiet ht hs
  scanStart _ _ hs ht := h.scanStart ht hs
  scanReading _ _ hs ht := h.scanReads ht hs
  flushAll _ _ hs ht := h.flushAll ht hs
  softReset _ _ hs ht := h.softReset ht hs
  action _ c v hs := h.actionCommand c v hs
  write _ a v hs := h.writeByte a v hs
  read _ a hs := h.readByte a hs
  kind _ k hs := h.beginKind k hs
  txnEnd s hs := h.session s .none none (by simp) hs
  refclk _ hs := h.refclk hs

end Sys2Proof.Machine
end

section
/-! PROOF. The laws that every step keeps: for each law, the updates that reach its block and why they keep it. -/

namespace Sys2Proof.Machine

/-! ### The memory link (R122, R124) -/

theorem keptByAllOps_memoryLinkLaw : KeptByAllOps State.memoryLinkLaw where
  issue s o hrun hfree hs := ⟨by simpa using hfree, by simp [hrun]⟩
  popHead s os hos hs := ⟨hos.trans hs.1, fun hh => by simpa [State.popHead, hs.2 hh] using hos⟩
  halt s _ := by simp [State.memoryLinkLaw]
  softResetEnd s _ _ := by simp [State.memoryLinkLaw, State.softResetEnd]
  tick s hs := by simpa [State.memoryLinkLaw, State.tick] using hs
  reset s _ := by simp [State.memoryLinkLaw, State.deviceReset, State.reset]

/-- Settles O51: of the updates that reach the link, an issue alone lengthens its list, and it is made only while the link is
RUNNING with a place free. -/
theorem stepKeepsMemoryLinkLaw : Obligations.StepKeepsMemoryLinkLaw :=
  fun s t hs ht => keptByAllOps_memoryLinkLaw.events.step s t hs ht

/-! ### The result queue (R146) -/

/-- A unit in another state that holds no more places than before. -/
theorem State.resultLaw_of_le {s t : State} (hr : t.scan.results.length ≤ s.scan.results.length)
    (hp : t.scan.reserved = true → s.scan.reserved = true) (hs : s.resultLaw) : t.resultLaw := by
  unfold State.resultLaw at *
  by_cases ht : t.scan.reserved = true
  · rw [if_pos (hp ht)] at hs
    rw [if_pos ht]
    omega
  · rw [if_neg ht]
    omega

theorem keptByAllOps_resultLaw : KeptByAllOps State.resultLaw where
  scanKept s u hst hres hs :=
    State.resultLaw_of_le (s := s) (t := { s with scan := u }) (by simp [hres]) (by simp [ScanUnit.reserved, hst]) hs
  scanBegin s u hlt hres _ := by
    simp only [State.resultLaw, hres]
    split <;> omega
  scanReading s hf hs := State.resultLaw_of_le (s := s) (t := { s with scan := _ }) (le_refl _) (by simp [ScanUnit.reserved, hf]) hs
  scanIdle s hs := State.resultLaw_of_le (s := s) (t := { s with scan := _ }) (le_refl _) (by simp [ScanUnit.reserved]) hs
  scanEnd s u r hb ha hres hs := by
    simpa [State.resultLaw, hb, ha, hres] using hs
  resultPop s hs := State.resultLaw_of_le (s := s) (t := { s with scan := _ }) (by simp) id hs
  softResetBegin s _ hs :=
    State.resultLaw_of_le (s := s) (t := s.softResetBegin) (le_refl _) (by simp [ScanUnit.reserved, State.softResetBegin]) hs
  softResetEnd s _ _ := by
    have hplace : ∀ b : Bool, 0 + (if b = true then 1 else 0) ≤ 4 := by decide
    exact hplace _
  reset s _ := by simp [State.resultLaw, State.deviceReset, State.reset, ScanUnit.reserved]

/-- Settles O52: a scan begins only where a place is free, and its end turns the reserved place into one record. -/
theorem stepKeepsResultLaw : Obligations.StepKeepsResultLaw :=
  fun s t hs ht => keptByAllOps_resultLaw.events.step s t hs ht

/-! ### The mirror queue (R101, R104, R106, R116) -/

/-- An enqueue where there is room fills one place more. -/
theorem Mirror.level_enqueue (m : Mirror) (k : MessageKind) (e : EntryId) (c : Colour) :
    (m.enqueue k e c).level = m.level + 1 := by
  simp only [Mirror.level, Mirror.enqueue_fields, List.length_append, List.length_singleton]
  omega

theorem Mirror.hasRoom_iff (m : Mirror) : m.hasRoom = true ↔ m.level < 16 := decide_eq_true_iff

theorem Mirror.level_unreserve (m : Mirror) : ({ m with reserve := false } : Mirror).level ≤ m.level := by
  simp [Mirror.level]

/-- A link that is not DETACHED is bound by the two limits alone. -/
theorem State.mirrorLaw_of_linked {s : State} (hl : s.mirror.link ≠ .detached) (hlevel : s.mirror.level ≤ 16)
    (hcredits : s.mirror.credits ≤ 8) : s.mirrorLaw := ⟨hlevel, hcredits, fun h => absurd h hl⟩

theorem State.detach_mirrorLaw (s : State) : s.detach.mirrorLaw := by
  simp [State.mirrorLaw, State.detach, Mirror.level]

theorem keptByAllOps_mirrorLaw : KeptByAllOps State.mirrorLaw where
  countUp s e n hs := by
    obtain ⟨hlevel, hcredits, hd⟩ := hs
    exact ⟨hlevel, hcredits, fun hl => by simpa [(s.colour.addCount_kept e e n).2.2] using hd hl⟩
  countDown s e n hs := by
    obtain ⟨hlevel, hcredits, hd⟩ := hs
    exact ⟨hlevel, hcredits, fun hl => by simpa [(s.colour.subCount_kept e e n).2.2] using hd hl⟩
  heldHead s e rest hh hs := by
    obtain ⟨hlevel, hcredits, hd⟩ := hs
    exact ⟨hlevel, hcredits, fun hl => by simp [hh] at hd; exact absurd hl hd⟩
  enqueue s k e c hl hr hs := by
    rw [Mirror.hasRoom_iff] at hr
    exact State.mirrorLaw_of_linked (by simpa using hl) (by rw [Mirror.level_enqueue]; omega) (by simpa using hs.2.1)
  enqueueReserved s k e c hl hr hs := by
    refine State.mirrorLaw_of_linked (by simpa using hl) ?_ (by simpa using hs.2.1)
    have hlevel := hs.1
    rw [Mirror.hasRoom_iff] at hr
    rw [Mirror.level_enqueue]
    simp only [Mirror.level] at hlevel hr ⊢
    rcases hr with hr | hr
    · simp only [hr, if_true] at hlevel
      simpa using hlevel
    · simp
      omega
  reserve s hl hr hs := by
    rw [Mirror.hasRoom_iff] at hr
    refine State.mirrorLaw_of_linked hl ?_ hs.2.1
    simp only [Mirror.level] at hr ⊢
    simp
    omega
  unreserve s hs := by
    obtain ⟨hlevel, hcredits, hd⟩ := hs
    refine ⟨s.mirror.level_unreserve.trans hlevel, hcredits, fun hl => ?_⟩
    obtain ⟨hq, hsend, -, hc, hh⟩ := hd hl
    exact ⟨hq, hsend, rfl, hc, hh⟩
  attach s hl hs := by
    obtain ⟨hq, -, hr, -, -⟩ := hs.2.2 hl
    exact State.mirrorLaw_of_linked (by simp) (by simp [Mirror.level, hq, hr]) (by simp)
  detach s _ := s.detach_mirrorLaw
  startSending s hl hs := State.mirrorLaw_of_linked hl hs.1 (by have := hs.2.1; simp; omega)
  headSent s m rest hq hs := by
    obtain ⟨hlevel, hcredits, hd⟩ := hs
    have hl : s.mirror.link ≠ .detached := fun h => by simp [hq] at hd; exact hd h
    refine State.mirrorLaw_of_linked ?_ ?_ hcredits
    · simp only [State.sendHead]
      split
      · simp
      · exact hl
    · rw [Mirror.level, hq, List.length_cons] at hlevel
      exact (Nat.add_le_add_right (Nat.le_succ _) _).trans hlevel
  credit s hl hc hs := State.mirrorLaw_of_linked hl hs.1 (by simp; omega)
  hold s e hl _ hs := State.mirrorLaw_of_linked hl hs.1 hs.2.1
  softResetEnd s _ _ := s.detach_mirrorLaw
  tick s hs := by
    have hm : s.tick.mirror = { s.mirror with stall := s.tick.mirror.stall } := by
      simp only [State.tick, State.ripen, Mirror.tick]
      split <;> rfl
    unfold State.mirrorLaw
    rw [hm]
    exact hs
  reset s _ := by simp [State.mirrorLaw, State.deviceReset, State.reset, Mirror.level]

/-- Settles O53: a message is enqueued and a place reserved only on a link that is not DETACHED and has room, and a detach empties
everything. -/
theorem stepKeepsMirrorLaw : Obligations.StepKeepsMirrorLaw :=
  fun s t hs ht => keptByAllOps_mirrorLaw.events.step s t hs ht

/-! ### Sequence numbers (R103) -/

/-- A message that joins the tail with the number after the enqueue counter's continues the numbers. -/
theorem State.sequenceLaw_enqueue {s t : State} (k : MessageKind) (e : EntryId) (c : Colour)
    (ht : t.mirror.sent = s.mirror.sent ∧ t.mirror.enqueued = s.mirror.enqueued + 1 ∧
      t.mirror.queue = s.mirror.queue ++ [{ kind := k, seq := s.mirror.enqueued + 1, entry := e, colour := c }])
    (hs : s.sequenceLaw) : t.sequenceLaw := by
  obtain ⟨hsent, henq, hqueue⟩ := ht
  obtain ⟨hcount, hseq⟩ := hs
  have hnext : s.mirror.enqueued + 1 = s.mirror.sent + BitVec.ofNat 16 (s.mirror.queue.length + 1) := by
    rw [hcount, BitVec.ofNat_add, BitVec.add_assoc]
    rfl
  refine ⟨?_, ?_⟩
  · rw [henq, hsent, hqueue, List.length_append, List.length_singleton, hnext]
  · rw [hqueue, hsent, List.length_append, List.length_singleton, List.range_succ, List.map_append, List.map_append, hseq,
      List.map_singleton, List.map_singleton, hnext]

/-- The head's number is the one after the sent counter's, so the rest follows it. -/
theorem State.sequenceLaw_sendHead {s : State} {m : Message} {rest : List Message} (hq : s.mirror.queue = m :: rest)
    (hs : s.sequenceLaw) : (s.sendHead m rest).sequenceLaw := by
  obtain ⟨hcount, hseq⟩ := hs
  rw [hq, List.length_cons, List.range_succ_eq_map, List.map_cons, List.map_cons, List.map_map, List.cons.injEq] at hseq
  rw [hq, List.length_cons] at hcount
  obtain ⟨hm, hrest⟩ := hseq
  have hstep (i : Nat) : s.mirror.sent + BitVec.ofNat 16 (i + 1) = m.seq + BitVec.ofNat 16 i := by
    rw [hm, BitVec.ofNat_add, BitVec.add_assoc, BitVec.add_comm (BitVec.ofNat 16 i)]
  refine ⟨hcount.trans (hstep _), hrest.trans (List.map_congr_left fun i _ => hstep (i + 1))⟩

theorem State.detach_sequenceLaw (s : State) : s.detach.sequenceLaw := by simp [State.sequenceLaw, State.detach]

theorem keptByAllOps_sequenceLaw : KeptByAllOps State.sequenceLaw where
  enqueue s k e c _ _ hs := State.sequenceLaw_enqueue (s := s) k e c ⟨rfl, rfl, rfl⟩ hs
  enqueueReserved s k e c _ _ hs := State.sequenceLaw_enqueue (s := s) k e c ⟨rfl, rfl, rfl⟩ hs
  attach s _ hs := State.sequenceLaw_enqueue (s := s) .resyncBegin 0 Colour.black ⟨rfl, rfl, rfl⟩ hs
  detach s _ := s.detach_sequenceLaw
  headSent s m rest hq hs := State.sequenceLaw_sendHead hq hs
  softResetEnd s _ _ := s.detach_sequenceLaw
  tick s hs := by
    have hm : s.tick.mirror = { s.mirror with stall := s.tick.mirror.stall } := by
      simp only [State.tick, State.ripen, Mirror.tick]
      split <;> rfl
    unfold State.sequenceLaw
    rw [hm]
    exact hs
  reset s _ := by simp [State.sequenceLaw, State.deviceReset, State.reset]

/-- Settles O54: an enqueue takes the number after the enqueue counter's, and a departure moves the sent counter to the number of the
head. -/
theorem stepKeepsSequenceLaw : Obligations.StepKeepsSequenceLaw :=
  fun s t hs ht => keptByAllOps_sequenceLaw.events.step s t hs ht

/-! ### The age list and the flush order (R44, R45) -/

/-- Both lists, and each line's state, as before. -/
theorem State.gatherLaw_congr {s t : State} (ha : t.gather.age = s.gather.age) (ho : t.gather.order = s.gather.order)
    (hl : ∀ l, (t.line l).state = (s.line l).state) (hs : s.gatherLaw) : t.gatherLaw := by
  simpa only [State.gatherLaw, ha, ho, hl] using hs

@[simp] theorem State.line_flushed (s : State) (l k : LineId) (c : FlushCause) :
    (s.flushed l c).line k = if l = k then (s.line l).inFlush (s.win (s.line l).window) c else s.line k :=
  s.line_setLine l k _

@[simp] theorem State.line_freed (s : State) (l k : LineId) :
    State.line { s with gather := s.gather.freed l } k = if l = k then Line.blank else s.line k :=
  s.line_setLine l k Line.blank

@[simp] theorem State.line_taken (s : State) (l k : LineId) (x : Line) :
    (s.taken l x).line k = if l = k then x else s.line k := s.line_setLine l k x

@[simp] theorem State.flushed_lists (s : State) (l : LineId) (c : FlushCause) :
    (s.flushed l c).gather.age = s.gather.age.filter (· != l) ∧ (s.flushed l c).gather.order = s.gather.order ++ [l] :=
  ⟨rfl, rfl⟩

@[simp] theorem Gather.freed_lists (g : Gather) (l : LineId) :
    (g.freed l).age = g.age.filter (· != l) ∧ (g.freed l).order = g.order.filter (· != l) := ⟨rfl, rfl⟩

@[simp] theorem State.taken_lists (s : State) (l : LineId) (x : Line) :
    (s.taken l x).gather.age = s.gather.age ++ [l] ∧ (s.taken l x).gather.order = s.gather.order := ⟨rfl, rfl⟩

@[simp] theorem Line.blank_state : Line.blank.state = .free := rfl

@[simp] theorem Line.inFlush_place (ln : Line) (w : Window) (c : FlushCause) :
    (ln.inFlush w c).state = .flushing ∧ (ln.inFlush w c).window = ln.window ∧ (ln.inFlush w c).group = ln.group :=
  ⟨rfl, rfl, rfl⟩

@[simp] theorem State.softResetBegin_line (s : State) (l : LineId) : s.softResetBegin.line l = Line.blank := by
  simp [State.line, State.softResetBegin]

@[simp] theorem State.deviceReset_line (s : State) (l : LineId) : s.deviceReset.line l = Line.blank := by
  simp [State.line, State.deviceReset, State.reset]

/-- A tick moves a line's idle timer alone. -/
theorem State.tick_line (s : State) (l : LineId) : s.tick.line l = (s.line l).tick := by
  simp [State.line, State.tick, State.ripen]

@[simp] theorem Line.tick_place (ln : Line) :
    ln.tick.state = ln.state ∧ ln.tick.window = ln.window ∧ ln.tick.group = ln.group := by
  unfold Line.tick
  split <;> exact ⟨rfl, rfl, rfl⟩

theorem State.gatherLaw_flushed {s : State} {l : LineId} {c : FlushCause} (hg : (s.line l).state = .gathering)
    (hs : s.gatherLaw) : (s.flushed l c).gatherLaw := by
  obtain ⟨hage, horder, hmem⟩ := hs
  have hnot : l ∉ s.gather.order := by simp [(hmem l).2, hg]
  refine ⟨hage.filter _, by simpa using horder.concat hnot, fun k => ?_⟩
  obtain ⟨hka, hko⟩ := hmem k
  by_cases hk : l = k
  · simp [← hk]
  · simp [hk, Ne.symm hk, hka, hko]

theorem State.gatherLaw_freed {s : State} {l : LineId} (hs : s.gatherLaw) :
    State.gatherLaw { s with gather := s.gather.freed l } := by
  obtain ⟨hage, horder, hmem⟩ := hs
  refine ⟨hage.filter _, horder.filter _, fun k => ?_⟩
  obtain ⟨hka, hko⟩ := hmem k
  by_cases hk : l = k
  · simp [← hk]
  · simp [hk, Ne.symm hk, hka, hko]

theorem State.gatherLaw_taken {s : State} {l : LineId} {x : Line} (hf : (s.line l).state = .free) (hx : x.state = .gathering)
    (hs : s.gatherLaw) : (s.taken l x).gatherLaw := by
  obtain ⟨hage, horder, hmem⟩ := hs
  have hnot : l ∉ s.gather.age := by simp [(hmem l).1, hf]
  refine ⟨by simpa using hage.concat hnot, horder, fun k => ?_⟩
  obtain ⟨hka, hko⟩ := hmem k
  by_cases hk : l = k
  · simp [← hk, hx, (hmem l).2, hf]
  · simp [hk, Ne.symm hk, hka, hko]

theorem keptByAllOps_gatherLaw : KeptByAllOps State.gatherLaw where
  flush s l c hg hs := State.gatherLaw_flushed hg hs
  lineKept s l x hst _ _ hs := State.gatherLaw_congr (s := s) rfl rfl (fun k => by by_cases hk : l = k <;> simp [hk, hst]) hs
  lineTaken s l x hf hx _ hs := State.gatherLaw_taken hf hx hs
  lineFreed s l hs := State.gatherLaw_freed hs
  softResetBegin s _ _ := ⟨List.nodup_nil, List.nodup_nil, fun l => by
    rw [s.softResetBegin_line l]
    exact ⟨by simp [State.softResetBegin], by simp [State.softResetBegin]⟩⟩
  tick s hs := State.gatherLaw_congr (s := s) rfl rfl (fun l => by simp [State.tick_line]) hs
  reset s _ := ⟨List.nodup_nil, List.nodup_nil, fun l => by
    rw [s.deviceReset_line l]
    exact ⟨by simp [State.deviceReset, State.reset], by simp [State.deviceReset, State.reset]⟩⟩

/-- Settles O55: a line joins the age list when it is taken, moves to the flush order when its flush starts, and leaves both when it
becomes FREE. -/
theorem stepKeepsGatherLaw : Obligations.StepKeepsGatherLaw :=
  fun s t hs ht => keptByAllOps_gatherLaw.events.step s t hs ht

/-! ### Groups and lines (R48) -/

/-- Each line that is not FREE holds the group that it held before. -/
theorem State.groupLaw_of_kept {s t : State}
    (hl : ∀ l, (t.line l).state ≠ .free →
      (s.line l).state ≠ .free ∧ (t.line l).window = (s.line l).window ∧ (t.line l).group = (s.line l).group)
    (hs : s.groupLaw) : t.groupLaw := by
  intro l k hne hfl hfk hw
  obtain ⟨hsl, hwl, hgl⟩ := hl l hfl
  obtain ⟨hsk, hwk, hgk⟩ := hl k hfk
  rw [hgl, hgk]
  exact hs l k hne hsl hsk (by rw [← hwl, ← hwk, hw])

/-- No line that is not FREE holds a group that the search does not find. -/
theorem State.findLine_eq_none {s : State} {w : WindowId} {g : Nat} (h : s.findLine w g = none) (k : LineId)
    (hk : (s.line k).state ≠ .free) (hw : (s.line k).window = w) : (s.line k).group ≠ g := by
  have hall := List.find?_eq_none.mp h k (List.mem_finRange k)
  simpa [Line.holds, hk, hw] using hall

theorem State.groupLaw_taken {s : State} {l : LineId} {x : Line} (hn : s.findLine x.window x.group = none)
    (hs : s.groupLaw) : (s.taken l x).groupLaw := by
  intro i k hne hfi hfk hw
  simp only [State.line_taken] at hfi hfk hw ⊢
  by_cases hi : l = i
  · have hk : ¬l = k := fun h => hne (hi.symm.trans h)
    rw [if_pos hi] at hw ⊢
    rw [if_neg hk] at hfk hw ⊢
    exact (State.findLine_eq_none hn k hfk hw.symm).symm
  · rw [if_neg hi] at hfi hw ⊢
    by_cases hk : l = k
    · rw [if_pos hk] at hw ⊢
      exact State.findLine_eq_none hn i hfi hw
    · rw [if_neg hk] at hfk hw ⊢
      exact hs i k hne hfi hfk hw

theorem keptByAllOps_groupLaw : KeptByAllOps State.groupLaw where
  flush s l c hg hs := State.groupLaw_of_kept (s := s) (fun k hk => by
    by_cases h : l = k
    · subst h; simp [hg]
    · simpa [h] using hk) hs
  lineKept s l x hst hw hgr hs := State.groupLaw_of_kept (s := s) (fun k hk => by
    by_cases h : l = k
    · subst h; simpa [hst, hw, hgr] using hk
    · simpa [h] using hk) hs
  lineTaken s l x _ _ hn hs := State.groupLaw_taken hn hs
  lineFreed s l hs := State.groupLaw_of_kept (s := s) (fun k hk => by
    by_cases h : l = k
    · subst h; simp at hk
    · simpa [h] using hk) hs
  softResetBegin s _ _ := fun l k _ hl => by simp at hl
  tick s hs := State.groupLaw_of_kept (s := s) (fun l hl => by simpa [State.tick_line] using hl) hs
  reset s _ := fun l k _ hl => by simp at hl

/-- Settles O56: a line is taken for a group only where the search finds no line that holds it. -/
theorem stepKeepsGroupLaw : Obligations.StepKeepsGroupLaw :=
  fun s t hs ht => keptByAllOps_groupLaw.events.step s t hs ht

end Sys2Proof.Machine
end

section
/-! PROOF. The ranges of the windows in use stay disjoint (R23), with the law of the window engine that this rests on (R40). -/

namespace Sys2Proof.Machine

/-! ### What the law reads of a window -/

/-- The two records have the fields in common that give a window its ranges and make it adaptive (R5, 2.1). -/
structure Window.sameShape (x y : Window) : Prop where
  hbase : x.hbase = y.hbase
  mbase : x.mbase = y.mbase
  pixels : x.pixels = y.pixels
  format : x.format = y.format
  tableMode : x.tableMode = y.tableMode

theorem Window.sameShape.refl (x : Window) : x.sameShape x := ⟨rfl, rfl, rfl, rfl, rfl⟩

theorem Window.sameShape.ranges {x y : Window} (h : x.sameShape y) :
    x.hostLo = y.hostLo ∧ x.hostHi = y.hostHi ∧ x.memLo = y.memLo ∧ x.memHi = y.memHi := by
  simp [Window.hostLo, Window.hostHi, Window.memLo, Window.memHi, Window.fmt, h.hbase, h.mbase, h.pixels, h.format]

theorem Window.sameShape.adaptive {x y : Window} (h : x.sameShape y) : x.adaptive = y.adaptive := by
  simp [Window.adaptive, h.format, h.tableMode]

theorem Window.sameShape.disjoint {x y x' y' : Window} (hx : x.sameShape x') (hy : y.sameShape y') (hd : x'.disjoint y') :
    x.disjoint y := by
  obtain ⟨hl, hh, ml, mh⟩ := hx.ranges
  obtain ⟨hl', hh', ml', mh'⟩ := hy.ranges
  simpa only [Window.disjoint, hl, hh, ml, mh, hl', hh', ml', mh'] using hd

theorem overlaps_comm (lo hi lo' hi' : Nat) : overlaps lo hi lo' hi' = overlaps lo' hi' lo hi := by
  simp only [overlaps, max_comm lo, min_comm hi]

theorem Window.disjoint_symm {x y : Window} (h : x.disjoint y) : y.disjoint x := by
  obtain ⟨hh, hm⟩ := h
  exact ⟨by rw [overlaps_comm, hh], by rw [overlaps_comm, hm]⟩

/-- Records with the same field values have the same shape. -/
theorem Window.sameShape_of_getField {x y : Window} (h : ∀ f, x.getField f = y.getField f) : x.sameShape y :=
  ⟨BitVec.eq_of_toNat_eq (h .hbase), BitVec.eq_of_toNat_eq (h .mbase), BitVec.eq_of_toNat_eq (h .pixels),
    BitVec.eq_of_toNat_eq (h .format), BitVec.eq_of_toNat_eq (h .tableMode)⟩

theorem Window.putField_state (x : Window) (f : WinField) (n : Nat) : (x.putField f n).state = x.state := by
  cases f <;> rfl

/-! ### The two parts of the law, from one state to the next -/

/-- No two windows in use have ranges that meet (R23). -/
def State.rangesDisjoint (s : State) : Prop :=
  ∀ w v, w ≠ v → (s.win w).inUse = true → (s.win v).inUse = true → (s.win w).disjoint (s.win v)

theorem State.rangeLaw_iff (s : State) : s.rangeLaw ↔ s.rangesDisjoint ∧ s.engineLaw := Iff.rfl

/-- Each window in use was in use before, with the same shape. -/
theorem State.rangesDisjoint_of_shapes {s t : State}
    (hw : ∀ w, (t.win w).inUse = true → (s.win w).inUse = true ∧ (t.win w).sameShape (s.win w)) (hs : s.rangesDisjoint) :
    t.rangesDisjoint := by
  intro w v hne huw huv
  obtain ⟨hsw, hshape⟩ := hw w huw
  obtain ⟨hsv, hshape'⟩ := hw v huv
  exact hshape.disjoint hshape' (hs w v hne hsw hsv)

/-- A window that meets no other comes into use (R26). -/
theorem State.rangesDisjoint_arm {s : State} {w : WindowId} {x : Window} (hx : x.sameShape (s.win w))
    (hmeet : s.meetsOther w = false) (hs : s.rangesDisjoint) : (s.setWin w x).rangesDisjoint := by
  have hother (v : WindowId) (hv : w ≠ v) (hu : (s.win v).inUse = true) : (s.win w).disjoint (s.win v) := by
    have hall := List.any_eq_false.mp hmeet v (List.mem_finRange v)
    simpa [hv.symm, hu] using hall
  intro a b hne hua hub
  rw [State.win_setWin] at hua hub ⊢
  rw [State.win_setWin]
  split at hua <;> split at hub
  · next ha hb => exact absurd (ha.symm.trans hb) hne
  · next ha hb =>
    rw [if_pos ha, if_neg hb]
    exact hx.disjoint (.refl _) (hother b hb hub)
  · next ha hb =>
    rw [if_neg ha, if_pos hb]
    exact Window.disjoint_symm (hx.disjoint (.refl _) (hother a ha hua))
  · next ha hb =>
    rw [if_neg ha, if_neg hb]
    exact hs a b hne hua hub

/-- The window of an operation is in ARMING or DRAINING (R40). -/
theorem State.engineLaw_window {s : State} {w : WindowId} (hs : s.engineLaw) (hw : s.engine.window? = some w) :
    (s.win w).state = .arming ∨ (s.win w).state = .draining ∧ (s.win w).adaptive = true := by
  obtain ⟨hop, -⟩ := hs
  cases he : s.engine with
  | idle => simp [he, Engine.window?] at hw
  | filling f =>
    obtain rfl : f.window = w := by simpa [he, Engine.window?] using hw
    rw [he] at hop
    exact .inl hop
  | releasing r =>
    obtain rfl : r.window = w := by simpa [he, Engine.window?] using hw
    rw [he] at hop
    exact .inr hop

/-- The same operation, for a window in the same state and no less adaptive. -/
theorem State.engineLaw_congr {s t : State} (he : s.engine.sameOperation t.engine)
    (hr : t.inSoftReset = true → s.inSoftReset = true)
    (hw : ∀ w, s.engine.window? = some w →
      (t.win w).state = (s.win w).state ∧ ((s.win w).adaptive = true → (t.win w).adaptive = true))
    (hs : s.engineLaw) : t.engineLaw := by
  obtain ⟨hop, hsoft⟩ := hs
  unfold State.engineLaw
  cases hse : s.engine <;> cases hte : t.engine <;> simp only [hse, hte, Engine.sameOperation] at he
  case idle.idle => exact ⟨trivial, fun _ => rfl⟩
  case filling.filling f g =>
    rw [hse] at hop hw
    obtain ⟨hst, -⟩ := hw f.window rfl
    exact ⟨by simp only [← he, hst, hop], fun h => absurd (hse.symm.trans (hsoft (hr h))) (by simp)⟩
  case releasing.releasing r q =>
    rw [hse] at hop hw
    obtain ⟨hst, ha⟩ := hw r.window rfl
    exact ⟨by simp only [← he, hst, hop.1, ha hop.2, and_self], fun h => absurd (hse.symm.trans (hsoft (hr h))) (by simp)⟩

theorem Engine.sameOperation_refl (e : Engine) : e.sameOperation e := by cases e <;> simp [Engine.sameOperation]

/-- A window that no operation is for changes without the engine's law. -/
theorem State.engineLaw_setWin {s : State} {w : WindowId} {x : Window} (hw : s.engine.window? ≠ some w) (hs : s.engineLaw) :
    (s.setWin w x).engineLaw :=
  State.engineLaw_congr (s := s) (Engine.sameOperation_refl _) id (fun v hv => by
    have hne : ¬w = v := fun h => hw (h ▸ hv)
    simp [hne]) hs

/-- No operation is for a window that is OFF or ARMED, or for a DRAINING window that is not adaptive. -/
theorem State.not_engine_window {s : State} {w : WindowId} (hs : s.engineLaw)
    (hw : (s.win w).state = .off ∨ (s.win w).state = .armed ∨ (s.win w).state = .draining ∧ (s.win w).adaptive = false) :
    s.engine.window? ≠ some w := by
  intro h
  obtain ha | ⟨hd, ha⟩ := State.engineLaw_window hs h
  · simp [ha] at hw
  · simp [hd, ha] at hw

/-! ### The law -/

/-- Every window keeps its state and its field values, and the engine its operation. -/
theorem State.rangeLaw_congr {s t : State} (he : s.engine.sameOperation t.engine)
    (hr : t.inSoftReset = true → s.inSoftReset = true)
    (hw : ∀ w, (t.win w).state = (s.win w).state ∧ (t.win w).sameShape (s.win w)) (hs : s.rangeLaw) : t.rangeLaw :=
  ⟨State.rangesDisjoint_of_shapes (fun w hu => ⟨by simpa [Window.inUse, (hw w).1] using hu, (hw w).2⟩) hs.1,
    State.engineLaw_congr he hr (fun w _ => ⟨(hw w).1, fun ha => (hw w).2.adaptive.trans ha⟩) hs.2⟩

/-- A window in use whose state alone changes. -/
theorem State.rangesDisjoint_setWindowState {s : State} {w : WindowId} {st : WindowState} (hw : (s.win w).inUse = true)
    (hs : s.rangesDisjoint) : (s.setWindowState w st).rangesDisjoint :=
  State.rangesDisjoint_of_shapes (fun v hu => by
    rw [State.setWindowState, State.win_setWin] at hu ⊢
    split at hu
    · next h => subst h; rw [if_pos rfl]; exact ⟨hw, ⟨rfl, rfl, rfl, rfl, rfl⟩⟩
    · next h => rw [if_neg h]; exact ⟨hu, .refl _⟩) hs

theorem keptByAllOps_rangeLaw : KeptByAllOps State.rangeLaw where
  winKept s w x hst hf hs := State.rangeLaw_congr (s := s) (Engine.sameOperation_refl _) id (fun v => by
    rw [State.win_setWin]
    split
    · next h => subst h; exact ⟨hst, Window.sameShape_of_getField hf⟩
    · exact ⟨rfl, .refl _⟩) hs
  armPlain s w hoff hmeet hs :=
    ⟨State.rangesDisjoint_arm ⟨rfl, rfl, rfl, rfl, rfl⟩ hmeet hs.1,
      State.engineLaw_setWin (State.not_engine_window hs.2 (.inl hoff)) hs.2⟩
  armFill s w f hoff hmeet he hrun hf hs := by
    refine ⟨State.rangesDisjoint_arm ⟨rfl, rfl, rfl, rfl, rfl⟩ hmeet hs.1, ?_, ?_⟩
    · have hwin := State.win_setWin s w w ((s.win w).armed .arming)
      rw [if_pos rfl] at hwin
      subst hf
      exact congrArg Window.state hwin
    · simp [State.inSoftReset, hrun]
  drainBegin s w ha hs :=
    ⟨State.rangesDisjoint_setWindowState (by simp [Window.inUse, ha]) hs.1,
      State.engineLaw_setWin (State.not_engine_window hs.2 (.inr (.inl ha))) hs.2⟩
  drainEnd s w hd ha hs :=
    ⟨State.rangesDisjoint_setWindowState (by simp [Window.inUse, hd]) hs.1,
      State.engineLaw_setWin (State.not_engine_window hs.2 (.inr (.inr ⟨hd, ha⟩))) hs.2⟩
  engineGoes s e he hs := State.rangeLaw_congr (s := s) he id (fun _ => ⟨rfl, .refl _⟩) hs
  engineRelease s r he hrun hd ha hs := ⟨hs.1, ⟨hd, ha⟩, by simp [State.inSoftReset, hrun]⟩
  engineEnd s w st hw hs := by
    have hu : (s.win w).inUse = true := by
      obtain h | ⟨h, -⟩ := State.engineLaw_window hs.2 hw <;> simp [Window.inUse, h]
    exact ⟨State.rangesDisjoint_setWindowState (s := { s with engine := .idle }) hu hs.1, trivial, fun _ => rfl⟩
  action s a hrun hs := by
    refine State.rangeLaw_congr (s := s) (Engine.sameOperation_refl _) ?_ (fun _ => ⟨rfl, .refl _⟩) hs
    simpa [State.inSoftReset] using hrun.mp
  softResetBegin s _ hs :=
    ⟨State.rangesDisjoint_of_shapes (s := s) (fun w hu => by
      have hwin : s.softResetBegin.win w = (s.win w).softReset := by simp [State.win, State.softResetBegin]
      rw [hwin] at hu ⊢
      exact ⟨hu, ⟨rfl, rfl, rfl, rfl, rfl⟩⟩) hs.1, trivial, fun _ => rfl⟩
  softResetEnd s hsoft hs := by
    have hidle : s.softResetEnd.engine = .idle := hs.2.2 hsoft
    refine ⟨fun w v _ hu => ?_, ?_, fun _ => hidle⟩
    · simp [State.win, State.softResetEnd, Window.inUse] at hu
    · rw [hidle]; trivial
  tick s hs := State.rangeLaw_congr (s := s) (Engine.sameOperation_refl _) id (fun w => by
    have hwin : s.tick.win w = (s.win w).tick := by simp [State.win, State.tick, State.ripen]
    rw [hwin]
    unfold Window.tick
    split
    · split <;> exact ⟨rfl, ⟨rfl, rfl, rfl, rfl, rfl⟩⟩
    · exact ⟨rfl, .refl _⟩) hs
  field s w f n hf hs := by
    rcases hf with rfl | hoff
    · refine State.rangeLaw_congr (s := s) (Engine.sameOperation_refl _) id (fun v => ?_) hs
      rw [State.win_setWin]
      split
      · next h => subst h; exact ⟨rfl, ⟨rfl, rfl, rfl, rfl, rfl⟩⟩
      · exact ⟨rfl, .refl _⟩
    · refine ⟨State.rangesDisjoint_of_shapes (s := s) (fun v hu => ?_) hs.1,
        State.engineLaw_setWin (State.not_engine_window hs.2 (.inl hoff)) hs.2⟩
      rw [State.win_setWin] at hu ⊢
      split at hu
      · simp [Window.inUse, Window.putField_state, hoff] at hu
      · next h => rw [if_neg h]; exact ⟨hu, .refl _⟩
  reset s _ := by
    refine ⟨fun w v _ hu => ?_, trivial, fun _ => rfl⟩
    simp [State.win, State.deviceReset, State.reset, Window.initial, Window.inUse] at hu

/-- Settles O57: a window comes into use only where its ranges meet no other's, and while it is in use no field that gives its ranges
can be written; the engine's law keeps the two ends of an operation to the window that it is for. -/
theorem stepKeepsRangeLaw : Obligations.StepKeepsRangeLaw :=
  fun s t hs ht => keptByAllOps_rangeLaw.events.step s t hs ht

end Sys2Proof.Machine
end

section
/-! PROOF. The bounds of the queues, counts and lists that every step keeps, and the laws at a device reset. -/

namespace Sys2Proof.Machine

/-! ### Fault queue and ingress queue (R148, R176) -/

theorem keptByAllOps_faultLaw : KeptByAllOps State.faultLaw where
  fault s r hs := s.faults.append_length r hs
  faultPop s hs := by
    rw [State.faultLaw, FaultQueue.pop_records, List.length_tail]
    exact (Nat.sub_le _ _).trans hs
  softResetEnd s _ _ := Nat.zero_le _
  reset s _ := Nat.zero_le _

theorem keptByAllOps_ingressLaw : KeptByAllOps State.ingressLaw where
  host s x hx hs := hx hs
  softResetBegin s _ _ := Nat.zero_le _
  softResetEnd s _ hs := HostSide.takeWaiting_length _ hs
  reset s _ := Nat.zero_le _

/-! ### Counts (R86) -/

theorem keptByAllOps_countLaw : KeptByAllOps State.countLaw where
  countUp s e n hs f := by
    simp only [State.entry, ColourTable.addCount_count, Config.countMax]
    split
    · exact Nat.min_le_right _ _
    · exact hs f
  countDown s e n hs f := by
    simp only [State.entry, ColourTable.subCount_count]
    split
    · exact (Nat.sub_le _ _).trans (hs e)
    · exact hs f
  recolour s e c hs f := by
    simp only [State.entry, ColourTable.entry_setEntry]
    split
    · exact hs e
    · exact hs f
  clearCounts s _ f := by simp [State.entry, ColourTable.entry, ColourTable.clearCounts]
  softResetEnd s _ _ f := by simp [State.entry, ColourTable.entry, State.softResetEnd, ColourTable.clearCounts]
  flags s e v hs f := by
    simp only [State.requestFlags, State.entry, ColourTable.entry_setEntry]
    split
    · exact hs e
    · exact hs f
  reset s _ f := by simp [State.entry, ColourTable.entry, State.deviceReset, State.reset]

/-! ### Held announcements (R95) -/

theorem keptByAllOps_heldLaw : KeptByAllOps State.heldLaw where
  countUp s e n hs := by rwa [State.heldLaw, (s.colour.addCount_kept e e n).2.2]
  countDown s e n hs := by rwa [State.heldLaw, (s.colour.subCount_kept e e n).2.2]
  heldHead s e rest hh hs := by
    rw [State.heldLaw, hh] at hs
    exact hs.of_cons
  detach s _ := List.nodup_nil
  hold s e _ hne hs := by simpa using hs.concat hne
  softResetEnd s _ _ := List.nodup_nil
  reset s _ := List.nodup_nil

/-! ### SDO and the memory list (R159; log entry 5) -/

theorem keptByAllOps_sdoLaw : KeptByAllOps State.sdoLaw where
  session s x o ho _ := ho
  reset s _ := iff_of_true rfl rfl

theorem keptByAllOps_memoryLaw : KeptByAllOps State.memoryLaw where
  memory s m n hm hs := hm hs
  reset s hs := s.lateWrites_wf hs

/-- Settles O50: each bound is kept by the updates that reach its queue, count or list. -/
theorem stepKeepsBounds : Obligations.StepKeepsBounds := fun s t ht =>
  ⟨fun hs => keptByAllOps_faultLaw.events.step s t hs ht, fun hs => keptByAllOps_ingressLaw.events.step s t hs ht,
    fun hs => keptByAllOps_countLaw.events.step s t hs ht, fun hs => keptByAllOps_heldLaw.events.step s t hs ht,
    fun hs => keptByAllOps_sdoLaw.events.step s t hs ht, fun hs => keptByAllOps_memoryLaw.events.step s t hs ht⟩

/-! ### Reset -/

@[simp] theorem State.reset_win (w : WindowId) : State.reset.win w = Window.initial := by simp [State.win, State.reset]

@[simp] theorem State.reset_line (l : LineId) : State.reset.line l = Line.blank := by simp [State.line, State.reset]

@[simp] theorem State.reset_entry (e : EntryId) :
    State.reset.entry e = { colour := Colour.black, pinned := false, count := 0 } := by
  simp [State.entry, ColourTable.entry, State.reset]

theorem State.reset_gatherLaw : State.reset.gatherLaw := by
  refine ⟨List.nodup_nil, List.nodup_nil, fun l => ?_⟩
  rw [State.reset_line]
  exact ⟨by simp [State.reset], by simp [State.reset]⟩

theorem State.reset_rangeLaw : State.reset.rangeLaw := by
  refine ⟨fun w v _ hw => ?_, trivial, fun _ => rfl⟩
  simp [Window.inUse, Window.initial] at hw

/-- Settles O58: after a reset every queue and list is empty, every line FREE, every window OFF and every count 0. -/
theorem lawsHoldAtReset : Obligations.LawsHoldAtReset := by
  refine ⟨Nat.zero_le _, Nat.zero_le _, ⟨Nat.zero_le _, fun _ => rfl⟩, Nat.zero_le _,
    ⟨Nat.zero_le _, Nat.zero_le _, fun _ => ⟨rfl, rfl, rfl, rfl, rfl⟩⟩, ⟨rfl, rfl⟩, fun e => ?_, List.nodup_nil, rfl,
    iff_of_true rfl rfl, State.reset_gatherLaw, fun l k _ hl => ?_, State.reset_rangeLaw⟩
  · simp
  · simp at hl

end Sys2Proof.Machine
end

section
/-! PROOF. What commands leave alone: the timebase, the queue, the memory behind the link, the programmed values and the refusal
record, and the few commands that reach each of them. -/

namespace Sys2Proof.Machine

/-! ### Commands made of the common updates -/

section
variable {P : State → Prop} (h : KeptByOps P) {s t : State}
include h

theorem KeptByOps.consequence (ht : s.consequence = some t) (hs : P s) : P t := by
  rcases consequence_cases ht with ⟨l, k⟩ | k | k | k | k | k | k | k | k | k | ⟨w, k⟩ | k | k | k
  · exact h.mirrorWait k hs
  · exact h.flushPresent k hs
  · exact h.fillAnnounce k hs
  · exact h.fillPhase2 k hs
  · exact h.scanReads k hs
  · exact h.run k hs
  · exact h.halted k hs
  · exact h.flushAll k hs
  · exact h.softReset k hs
  · exact h.retry k hs
  · exact h.drained k hs
  · exact h.release2 k hs
  · exact h.response k hs
  · exact h.scanStart k hs

theorem KeptByOps.settle (hs : P s) : P s.settle := settle_induction P (fun _ _ hs ht => h.consequence ht hs) s hs

theorem KeptByOps.event {e : Option State} (hs : P s) (he : ∀ u, e = some u → P s → P u) (ht : eventOutcome s e = .next t) :
    P t := by
  rcases eventOutcome_next ht with rfl | ⟨u, hu, rfl⟩
  · exact hs
  · exact h.settle (he u hu hs)

end

/-- A message sent, and a response or a timeout of the memory link. -/
def fromLinks : Instr → Bool
  | .memoryResponse _ | .memoryTimeout | .messageSent => true
  | _ => false

/-- The bytes of the management port, and the begin and the end of its transactions. -/
def fromPort : Instr → Bool
  | .windowFieldCommit _ _ _ | .entryCommit _ _ | .globalWrite _ _ | .registerWrite _ _ | .readCapture _ | .voidTransaction _
  | .transactionEnd | .boundary _ => true
  | _ => false

/-- Every other command but the device reset is made of the common updates. -/
theorem KeptByOps.exec {P : State → Prop} (h : KeptByOps P) {c : Instr} {s t : State} (hd : c ≠ .deviceReset)
    (hl : fromLinks c = false) (hp : fromPort c = false) (hs : P s) (ht : Machine.exec c s = .next t) : P t := by
  have hc : (fromLinks c || fromPort c) = false := by rw [hl, hp]; rfl
  cases c
  case deviceReset => exact absurd rfl hd
  case hostRequest r => cases ht; exact h.settle (h.present r hs)
  case requestHandling => exact h.event hs (fun _ => h.request) ht
  case beatHandle => exact h.event hs (fun _ => h.beat) ht
  case placementRetry => exact h.event hs (fun _ => h.retry) ht
  case runIssue => exact h.event hs (fun _ => h.run) ht
  case hostResponse => exact h.event hs (fun _ => h.response) ht
  case issueGrant => exact h.event hs (fun _ => h.grant) ht
  case idleExpiry l => exact h.event hs (fun _ => h.idle) ht
  case mirrorWaitSatisfied l => exact h.event hs (fun _ => h.mirrorWait) ht
  case drainComplete w => exact h.event hs (fun _ => h.drained) ht
  case releasePhase2 => exact h.event hs (fun _ => h.release2) ht
  case fillAnnounce => exact h.event hs (fun _ => h.fillAnnounce) ht
  case fillPhase2 => exact h.event hs (fun _ => h.fillPhase2) ht
  case transmissionStart => exact h.event hs (fun _ => h.start) ht
  case resyncEnqueue => exact h.event hs (fun _ => h.resync) ht
  case creditEvent => cases ht; exact h.settle (h.credits hs)
  case stallExpiry => exact h.event hs (fun _ => h.stall) ht
  case quietExpiry w => exact h.event hs (fun _ => h.quiet) ht
  case scanStart => exact h.event hs (fun _ => h.scanStart) ht
  case scanReading => exact h.event hs (fun _ => h.scanReads) ht
  case flushAllComplete => exact h.event hs (fun _ => h.flushAll) ht
  case softResetComplete => exact h.event hs (fun _ => h.softReset) ht
  case arm v => cases ht; exact h.settle (h.actionCommand 1 v hs)
  case disarm v => cases ht; exact h.settle (h.actionCommand 2 v hs)
  case scan v => cases ht; exact h.settle (h.actionCommand 3 v hs)
  case flushAll v => cases ht; exact h.settle (h.actionCommand 4 v hs)
  case mirrorAttach v => cases ht; exact h.settle (h.actionCommand 5 v hs)
  case mirrorDetach v => cases ht; exact h.settle (h.actionCommand 6 v hs)
  case recount v => cases ht; exact h.settle (h.actionCommand 7 v hs)
  case faultPop v => cases ht; exact h.settle (h.actionCommand 8 v hs)
  case resultPop v => cases ht; exact h.settle (h.actionCommand 9 v hs)
  case softReset v => cases ht; exact h.settle (h.actionCommand 10 v hs)
  all_goals cases hc

/-- A message sent, and a response or a timeout of the memory link, are made of the updates of the links. -/
theorem KeptByLinkOps.exec {P : State → Prop} (h : KeptByLinkOps P) {c : Instr} {s t : State} (hd : c ≠ .deviceReset)
    (hp : fromPort c = false) (hs : P s) (ht : Machine.exec c s = .next t) : P t := by
  cases hl : fromLinks c with
  | false => exact h.toKeptByOps.exec hd hl hp hs ht
  | true =>
    cases c
    case messageSent => exact h.toKeptByOps.event hs (fun _ => h.sent) ht
    case memoryTimeout => exact h.toKeptByOps.event hs (fun _ => h.timeout) ht
    case memoryResponse r => cases ht; exact h.toKeptByOps.settle (h.respondMemory r hs)
    all_goals cases hl

/-- The commands of the management port are made of the updates of its bytes. -/
theorem KeptByByteOps.exec {P : State → Prop} (h : KeptByByteOps P) {c : Instr} {s t : State} (hd : c ≠ .deviceReset)
    (hl : fromLinks c = false) (hs : P s) (ht : Machine.exec c s = .next t) : P t := by
  cases hp : fromPort c with
  | false => exact h.toKeptByOps.exec hd hl hp hs ht
  | true =>
    cases c
    case windowFieldCommit w f v => cases ht; exact h.toKeptByOps.settle (h.writeByte _ v hs)
    case entryCommit e v => cases ht; exact h.toKeptByOps.settle (h.writeByte _ v hs)
    case globalWrite k v => cases ht; exact h.toKeptByOps.settle (h.writeByte _ v hs)
    case registerWrite a v => cases ht; exact h.toKeptByOps.settle (h.writeByte a v hs)
    case readCapture a => cases ht; exact h.readByte a hs
    case voidTransaction k => cases ht; exact h.beginKind k hs
    case transactionEnd => cases ht; exact h.session s .none none (by simp) hs
    case boundary a => cases ht; exact h.readByte a hs
    all_goals cases hp

/-! ### What the common updates do not reach -/

/-- In t the timebase, the marks, the memory behind the link, the queue and the mirror output are as in s. -/
def State.sameRecords (s t : State) : Prop :=
  t.refLeft = s.refLeft ∧ t.ripe = s.ripe ∧ t.memory = s.memory ∧ t.freeCount = s.freeCount ∧ t.pending = s.pending ∧
    t.out.messages = s.out.messages

theorem State.sameRecords_refl (s : State) : s.sameRecords s := ⟨rfl, rfl, rfl, rfl, rfl, rfl⟩

theorem keptByByteOps_sameRecords (s : State) : KeptByByteOps s.sameRecords where

/-- The GLOBAL settings and the refusal record are out of reach of the links, too. -/
theorem keptByLinkOps_settings (g : Settings) : KeptByLinkOps (fun t => t.port.settings = g) where

theorem keptByLinkOps_refusal (r : LastRefusal) : KeptByLinkOps (fun t => t.port.refusal = r) where

/-- In t every field that software writes in a window record, and every pinned flag, is as in s. -/
def State.sameProgram (s t : State) : Prop :=
  (∀ w f, (t.win w).getField f = (s.win w).getField f) ∧ ∀ e, (t.entry e).pinned = (s.entry e).pinned

/-- A window whose fields keep their values. -/
theorem State.sameProgram_setWin {s t : State} {w : WindowId} {x : Window}
    (hx : ∀ f, x.getField f = (t.win w).getField f) (hs : s.sameProgram t) : s.sameProgram (t.setWin w x) := by
  refine ⟨fun v f => ?_, hs.2⟩
  rw [State.win_setWin]
  split
  · next h => subst h; exact (hx f).trans (hs.1 w f)
  · exact hs.1 v f

/-- Entries whose pinned flags stay. -/
theorem State.sameProgram_colour {s t u : State} (hw : u.windows = t.windows)
    (hp : ∀ e, (u.entry e).pinned = (t.entry e).pinned) (hs : s.sameProgram t) : s.sameProgram u :=
  ⟨fun w f => by rw [State.win_congr hw]; exact hs.1 w f, fun e => (hp e).trans (hs.2 e)⟩

theorem ColourTable.clearCounts_entry (t : ColourTable) (e : EntryId) :
    t.clearCounts.entry e = { t.entry e with count := 0 } := by
  simp [ColourTable.entry, ColourTable.clearCounts]

theorem keptByLinkOps_sameProgram (s : State) : KeptByLinkOps s.sameProgram where
  winKept t w x _ hf hs := State.sameProgram_setWin hf hs
  armPlain t w _ _ hs := State.sameProgram_setWin (fun f => by cases f <;> rfl) hs
  armFill t w f _ _ _ _ _ hs := State.sameProgram_setWin (fun f => by cases f <;> rfl) hs
  drainBegin t w _ hs := State.sameProgram_setWin (fun f => by cases f <;> rfl) hs
  drainEnd t w _ _ hs := State.sameProgram_setWin (fun f => by cases f <;> rfl) hs
  engineEnd t w st _ hs := State.sameProgram_setWin (t := { t with engine := .idle }) (fun f => by cases f <;> rfl) hs
  countUp t e n hs := State.sameProgram_colour (t := t) rfl (fun f => (t.colour.addCount_kept e f n).2.1) hs
  countDown t e n hs := State.sameProgram_colour (t := t) rfl (fun f => (t.colour.subCount_kept e f n).2.1) hs
  recolour t e c hs := State.sameProgram_colour (t := t) rfl (fun f => by
    simp only [State.entry, ColourTable.entry_setEntry]
    split
    · next h => rw [h]
    · rfl) hs
  clearCounts t hs := State.sameProgram_colour (t := t) rfl (fun f => by simp only [State.entry, ColourTable.clearCounts_entry]) hs
  softResetBegin t _ hs := ⟨fun w f => by
    have hwin : t.softResetBegin.win w = (t.win w).softReset := by simp [State.win, State.softResetBegin]
    rw [hwin, ← hs.1 w f]
    cases f <;> rfl, hs.2⟩
  softResetEnd t _ hs := ⟨fun w f => by
    have hwin : t.softResetEnd.win w = { t.win w with state := .off } := by simp [State.win, State.softResetEnd]
    rw [hwin, ← hs.1 w f]
    cases f <;> rfl, fun e => by
    have hentry : t.softResetEnd.entry e = { t.entry e with count := 0 } := t.detach.colour.clearCounts_entry e
    rw [hentry, ← hs.2 e]⟩

/-! ### Steps -/

/-- No command stops the block. -/
theorem exec_next (c : Instr) (s : State) : ∃ t, exec c s = .next t := by cases c <;> exact ⟨_, rfl⟩

/-- The commands of the links touch no waiting command, either. -/
theorem keptByLinkOps_pending (q : List Instr) : KeptByLinkOps (fun t => t.pending = q) where

theorem exec_pending {c : Instr} {s t : State} (ht : exec c s = .next t) : t.pending = s.pending := by
  by_cases hd : c = .deviceReset
  · subst hd; cases ht; rfl
  · cases hl : fromLinks c with
    | false => exact ((keptByByteOps_sameRecords s).exec hd hl s.sameRecords_refl ht).2.2.2.2.1
    | true => exact (keptByLinkOps_pending s.pending).exec hd (by cases c <;> cases hl <;> rfl) rfl ht

theorem State.step_goesOn (s : State) : s.goesOn := by
  unfold State.goesOn step
  split
  · exact ⟨_, rfl⟩
  · exact exec_next _ _

/-- Settles O1: a step with a command waiting is that command's meaning, which always has a next state. -/
theorem stepRunsFrontCommand : Obligations.StepRunsFrontCommand := by
  intro c s
  obtain ⟨t, ht⟩ := exec_next c s
  exact ⟨rfl, s.step_goesOn, t, ht, exec_pending ht⟩

/-! ### The memory behind the link (R120, R121) -/

/-- A byte reads as it was last written, whatever the order of the list. -/
theorem Memory.read_write_eq (m : Memory) (x y : Nat) (v : Byte) :
    (m.write x v).read y = if x = y then some v else m.read y := by
  induction m with
  | nil => rfl
  | cons d m ih =>
    obtain ⟨a, b⟩ := d
    unfold Memory.write
    split
    · rfl
    · split
      · next hx =>
        subst hx
        simp only [Memory.read]
        split <;> rfl
      · next hx =>
        simp only [Memory.read, ih]
        split
        · next ha => rw [if_neg (ha ▸ hx)]
        · rfl

/-- What a WRITE performed leaves at an address (R120). -/
theorem Memory.perform_read (m : Memory) (r : MemRequest) (a : Nat) :
    (m.perform r).read a =
      if r.addr.toNat ≤ a ∧ a < r.addr.toNat + 8 * r.words ∧ r.mask.getLsbD (a - r.addr.toNat) = true then
        some (blockByte r.data (a - r.addr.toNat))
      else m.read a := by
  unfold Memory.perform
  generalize 8 * r.words = n
  induction n with
  | zero => rw [if_neg (by omega)]; rfl
  | succ n ih =>
    rw [List.range_succ, List.foldl_append, List.foldl_cons, List.foldl_nil]
    by_cases ha : a = r.addr.toNat + n
    · have hn : a - r.addr.toNat = n := by omega
      rw [hn]
      split
      · next hm =>
        rw [Memory.read_write_eq, if_pos ha.symm, if_pos ⟨by omega, by omega, hm⟩]
      · next hm =>
        rw [ih, if_neg (by omega), if_neg (fun h => hm h.2.2)]
    · have hrest : (r.addr.toNat ≤ a ∧ a < r.addr.toNat + (n + 1) ∧ r.mask.getLsbD (a - r.addr.toNat) = true) ↔
          (r.addr.toNat ≤ a ∧ a < r.addr.toNat + n ∧ r.mask.getLsbD (a - r.addr.toNat) = true) := by
        constructor <;> rintro ⟨h1, h2, h3⟩ <;> exact ⟨h1, by omega, h3⟩
      simp only [hrest]
      rw [← ih]
      split
      · rw [Memory.read_write_eq, if_neg (Ne.symm ha)]
      · rfl

/-- A response performs the request at the head of the list where it is OK to a WRITE (R121). -/
theorem State.respondMemory_memory (s : State) (r : MemReply) :
    (∀ o rest, s.link.outstanding = o :: rest → o.req.write = true → r ≠ .error →
      (s.respondMemory r).memory = s.memory.perform o.req) ∧
    (s.link.outstanding = [] ∨ (∃ o rest, s.link.outstanding = o :: rest ∧ o.req.write = false) ∨ r = .error →
      (s.respondMemory r).memory = s.memory) := by
  unfold State.respondMemory
  split
  · next hl => exact ⟨fun o rest h => by simp [hl] at h, fun _ => by simp [State.strayResponse]⟩
  · next o rest hl =>
    cases r with
    | error => exact ⟨fun _ _ _ _ h => absurd rfl h, fun _ => by dsimp only; split <;> simp⟩
    | ok ws =>
      have hmem : (if s.inSoftReset then (s.popHead rest).performed o
          else ((s.popHead rest).performed o).deliverOk o (s.memory.reply o.req ws)).memory =
          ((s.popHead rest).performed o).memory := by split <;> simp
      refine ⟨fun o' rest' h hw _ => ?_, fun h => ?_⟩
      · obtain ⟨rfl, rfl⟩ := List.cons.inj (hl.symm.trans h)
        exact hmem.trans (by simp [State.performed, hw])
      · have hw : o.req.write = false := by simpa [hl] using h
        exact hmem.trans (by simp [State.performed, hw])

/-! ### The marks of expired timers (log entry 21) -/

/-- The marks of t are those of s, but that the timeout's may be gone. -/
def State.marksKept (s t : State) : Prop := t.ripe = s.ripe ∨ t.ripe = { s.ripe with timeout := false }

theorem State.marksKept_popHead (s : State) (os : List Outstanding) : s.marksKept (s.popHead os) := .inr rfl

theorem State.marksKept.trans {s t u : State} (h : s.marksKept t) (h' : t.marksKept u) : s.marksKept u := by
  rcases h with h | h <;> rcases h' with h' | h' <;> simp [State.marksKept, h, h']

theorem State.marksKept_of_eq {s t : State} (h : t.ripe = s.ripe) : s.marksKept t := .inl h

theorem State.marksKept_respondMemory (s : State) (r : MemReply) : s.marksKept (s.respondMemory r) := by
  unfold State.respondMemory
  split
  · exact .inl (by simp [State.strayResponse])
  · next o rest _ =>
    refine (s.marksKept_popHead rest).trans (State.marksKept_of_eq ?_)
    dsimp only
    split <;> split <;> simp

theorem State.marksKept_failAll (s : State) (wait : Bool) (os : List Outstanding) : s.marksKept (s.failAll wait os) := by
  induction os generalizing s with
  | nil => exact .inl rfl
  | cons o os ih =>
    unfold State.failAll
    refine (s.marksKept_popHead os).trans ((State.marksKept_of_eq ?_).trans (ih _))
    split <;> simp

theorem marksKept_timeoutEvent {s t : State} (h : s.timeoutEvent = some t) : s.marksKept t := by
  unfold State.timeoutEvent at h
  split at h
  · cases h
  · next o _ _ =>
    split at h <;> cases h
    have hlate := State.marksKept_of_eq (s := s)
      (t := (s.appendFault { FaultRecord.bare .memoryTimeout with addr := some o.req.addr }).lateWrites) (by simp)
    refine hlate.trans ((State.marksKept_failAll _ s.engineRequest.isSome s.link.outstanding).trans (State.marksKept_of_eq ?_))
    simp [State.expireMemory]

/-- An event and its consequences mark no timer as expired. -/
theorem State.marksKept_eventOutcome {s t : State} {e : Option State} (he : ∀ u, e = some u → s.marksKept u)
    (ht : eventOutcome s e = .next t) : s.marksKept t := by
  rcases eventOutcome_next ht with rfl | ⟨u, hu, rfl⟩
  · exact .inl rfl
  · exact (he u hu).trans (.inl (by simp))

/-! ### The frames -/

/-- The mirror output is reached by a message sent alone: the consequences of an event leave it. -/
theorem State.settle_messages (s : State) : s.settle.out.messages = s.out.messages :=
  ((keptByByteOps_sameRecords s).toKeptByOps.settle s.sameRecords_refl).2.2.2.2.2

/-- The timebase, the marks, the memory and the mirror output, for every command but a device reset. -/
theorem exec_records {c : Instr} {s t : State} (hd : c ≠ .deviceReset) (ht : exec c s = .next t) :
    t.refLeft = s.refLeft ∧ s.marksKept t ∧
      (c ≠ .memoryTimeout → (∀ r, c ≠ .memoryResponse r) → t.ripe = s.ripe ∧ t.memory = s.memory ∧ t.freeCount = s.freeCount) ∧
      (c ≠ .messageSent → t.out.messages = s.out.messages) := by
  cases hl : fromLinks c with
  | false =>
    obtain ⟨href, hripe, hmem, hfree, -, hout⟩ := (keptByByteOps_sameRecords s).exec hd hl s.sameRecords_refl ht
    exact ⟨href, .inl hripe, fun _ _ => ⟨hripe, hmem, hfree⟩, fun _ => hout⟩
  | true =>
    cases c
    case memoryResponse r =>
      cases ht
      refine ⟨by simp, (s.marksKept_respondMemory r).trans (.inl (by simp)), fun _ hr => absurd rfl (hr r), fun _ => ?_⟩
      rw [State.settle_messages, (s.respondMemory_fields r).2.2.1]
    case memoryTimeout =>
      rcases eventOutcome_next ht with rfl | ⟨u, hu, rfl⟩
      · exact ⟨rfl, .inl rfl, fun h => absurd rfl h, fun _ => rfl⟩
      · refine ⟨by simp [timeoutEvent_fields hu], (marksKept_timeoutEvent hu).trans (.inl (by simp)),
          fun h => absurd rfl h, fun _ => ?_⟩
        rw [State.settle_messages, (timeoutEvent_fields hu).2.2.1]
    case messageSent =>
      rcases eventOutcome_next ht with rfl | ⟨u, hu, rfl⟩
      · exact ⟨rfl, .inl rfl, fun _ _ => ⟨rfl, rfl, rfl⟩, fun _ => rfl⟩
      · exact ⟨by simp [sentEvent_fields hu], .inl (by simp [sentEvent_fields hu]),
          fun _ _ => by simp [sentEvent_fields hu], fun h => absurd rfl h⟩
    all_goals cases hl

theorem State.marksKept.marks {s t : State} (h : s.marksKept t) :
    t.ripe.idle = s.ripe.idle ∧ t.ripe.stall = s.ripe.stall ∧ t.ripe.quiet = s.ripe.quiet ∧
      (t.ripe.timeout = s.ripe.timeout ∨ t.ripe.timeout = false) := by
  rcases h with h | h <;> simp [h]

/-- Settles O59: no update but a WRITE performed reaches the memory, no update but a departure the mirror output, and a response
performs the head's WRITE where it is OK. -/
theorem frameMemoryAndOutputs : Obligations.FrameMemoryAndOutputs := by
  refine ⟨fun m r a => ⟨?written, ?left⟩, fun c s t ht =>
    ⟨fun hd => (exec_records hd ht).2.1.marks, fun hd hm hr => ((exec_records hd ht).2.2.1 hm hr).1,
      fun hd hm hr => ((exec_records hd ht).2.2.1 hm hr).2, ?response, ?messages, fun hd => (exec_records hd ht).1⟩⟩
  case written =>
    rintro j hj hm rfl
    have hoff : r.addr.toNat + j - r.addr.toNat = j := by omega
    rw [Memory.perform_read, hoff, if_pos ⟨by omega, by omega, hm⟩]
  case left =>
    intro hmask
    rw [Memory.perform_read]
    refine if_neg ?_
    rintro ⟨hlo, hhi, hm⟩
    rw [hmask (a - r.addr.toNat) (by omega) (by omega)] at hm
    cases hm
  case response =>
    rintro r rfl
    cases ht
    simpa using s.respondMemory_memory r
  case messages =>
    intro hm
    by_cases hd : c = .deviceReset
    · subst hd; cases ht; rfl
    · exact (exec_records hd ht).2.2.2 hm

/-- A management read changes the transaction, the refusal record and SDO alone (R160). -/
theorem State.readByte_frame (s : State) (a : Half) :
    s.readByte a = { s with
      port := { s.port with txn := (s.readByte a).port.txn, refusal := (s.readByte a).port.refusal }
      out := { s.out with sdo := (s.readByte a).out.sdo } } := by
  obtain ⟨x, o, -, h | h⟩ := s.readByte_cases a <;> rw [h] <;> rfl

theorem sameProgram_of_reads {c : Instr} {s t : State} (hp : fromPort c = true) (hw : writesByte c = false)
    (ht : exec c s = .next t) : s.sameProgram t ∧ t.port.settings = s.port.settings := by
  have hc : (fromPort c && !writesByte c) = true := by rw [hp, hw]; rfl
  cases c
  case readCapture a =>
    cases ht
    rw [s.readByte_frame a]
    exact ⟨⟨fun _ _ => rfl, fun _ => rfl⟩, rfl⟩
  case boundary a =>
    cases ht
    rw [s.readByte_frame a]
    exact ⟨⟨fun _ _ => rfl, fun _ => rfl⟩, rfl⟩
  case voidTransaction k =>
    cases ht
    unfold State.beginKind
    split <;> exact ⟨⟨fun _ _ => rfl, fun _ => rfl⟩, rfl⟩
  case transactionEnd => cases ht; exact ⟨⟨fun _ _ => rfl, fun _ => rfl⟩, rfl⟩
  all_goals cases hc

/-- Settles O60: of all updates only those of written bytes reach the programmed values, and only those of the port's bytes the
refusal record. -/
theorem frameProgrammedAndReads : Obligations.FrameProgrammedAndReads := by
  refine ⟨fun c s t ht hw hd => ?program, fun c s t ht hw hd hread hvoid => ?refusal, fun a s t ht => ?read⟩
  case program =>
    cases hp : fromPort c with
    | false =>
      obtain ⟨hfields, hpins⟩ := (keptByLinkOps_sameProgram s).exec hd hp ⟨fun _ _ => rfl, fun _ => rfl⟩ ht
      exact ⟨hfields, hpins, (keptByLinkOps_settings s.port.settings).exec hd hp rfl ht⟩
    | true =>
      obtain ⟨⟨hfields, hpins⟩, hset⟩ := sameProgram_of_reads hp hw ht
      exact ⟨hfields, hpins, hset⟩
  case refusal =>
    cases hp : fromPort c with
    | false => exact (keptByLinkOps_refusal s.port.refusal).exec hd hp rfl ht
    | true =>
      have hc : (fromPort c && !writesByte c) = true := by rw [hp, hw]; rfl
      cases c
      case readCapture a => exact absurd rfl (hread a).1
      case boundary a => exact absurd rfl (hread a).2
      case voidTransaction k => exact absurd rfl (hvoid k)
      case transactionEnd => cases ht; rfl
      all_goals cases hc
  case read =>
    rcases ht with ht | ht <;> cases ht <;> exact s.readByte_frame a

end Sys2Proof.Machine
end

section
/-! PROOF. Consequences, time and the device reset: what `settle` does, what a step does where no command waits, and the values that a
device reset restores. -/

namespace Sys2Proof.Machine

/-! ### Consequences (log entry 2) -/

/-- An event whose condition does not hold leaves the state as it is. -/
theorem eventOutcome_none {s : State} {e : Option State} (h : e = none) : eventOutcome s e = .next s := by rw [h, eventOutcome]

/-- An event whose condition holds is taken with its consequences. -/
theorem eventOutcome_some {s t : State} {e : Option State} (h : e = some t) : eventOutcome s e = .next t.settle := by
  rw [h, eventOutcome]

/-- Where no consequence is open, none of the fourteen kinds is. -/
theorem consequence_none {s : State} (h : s.consequence = none) :
    (∀ l ∈ s.gather.order, s.mirrorWaitEvent l = none) ∧ s.presentEvent = none ∧ s.fillAnnounceEvent = none ∧
      s.fillPhase2Event = none ∧ s.scanReadingEvent = none ∧ s.runIssueEvent = none ∧ s.haltedEvent = none ∧
      s.flushAllEvent = none ∧ s.softResetEvent = none ∧ s.retryEvent = none ∧ (∀ w, s.drainEvent w = none) ∧
      s.release2Event = none ∧ s.responseEvent = none ∧ s.scanStartEvent = none := by
  simpa [State.consequence, allWindows] using h

/-- The rows change nothing where no consequence is open. -/
theorem consequenceRows_idle {s : State} (h : s.consequence = none) {c : Instr} (hc : c ∈ s.consequenceRows) :
    exec c s = .next s := by
  obtain ⟨hwait, -, hann, hphase, hscan, hrun, -, hall, hsoft, hretry, hdrain, hrel, hresp, hstart⟩ := consequence_none h
  simp only [State.consequenceRows, List.mem_append, List.mem_map, List.mem_cons, List.not_mem_nil, or_false] at hc
  rcases hc with (⟨l, hl, rfl⟩ | ⟨w, -, rfl⟩) | rfl | rfl | rfl | rfl | rfl | rfl | rfl | rfl | rfl | rfl
  · exact eventOutcome_none (hwait l hl)
  · exact eventOutcome_none (hdrain w)
  · exact eventOutcome_none hann
  · exact eventOutcome_none hphase
  · exact eventOutcome_none hscan
  · exact eventOutcome_none hrun
  · exact eventOutcome_none hall
  · exact eventOutcome_none hsoft
  · exact eventOutcome_none hretry
  · exact eventOutcome_none hrel
  · exact eventOutcome_none hresp
  · exact eventOutcome_none hstart

/-- An open consequence of a line is that of a line of the flush order. -/
theorem State.mirrorWait_order {s t : State} (h : s.gather.order.findSome? s.mirrorWaitEvent = some t) :
    ∃ l ∈ s.gather.order, s.mirrorWaitEvent l = some t := List.exists_of_findSome?_eq_some h

/-- An open consequence is the command of its row, or one of the two that have no row. -/
theorem consequence_row {s t : State} (h : s.consequence = some t) :
    s.presentEvent = some t ∨ s.haltedEvent = some t ∨ ∃ c ∈ s.consequenceRows, exec c s = .next t.settle := by
  have row {c : Instr} {e : Option State} (hc : c ∈ s.consequenceRows) (he : e = some t) (hx : exec c s = eventOutcome s e) :
      ∃ c ∈ s.consequenceRows, exec c s = .next t.settle := ⟨c, hc, hx.trans (eventOutcome_some he)⟩
  have single {c : Instr} {e : Option State} (hc : c ∈ [.fillAnnounce, .fillPhase2, .scanReading, .runIssue, .flushAllComplete,
      .softResetComplete, .placementRetry, .releasePhase2, .hostResponse, .scanStart]) (he : e = some t)
      (hx : exec c s = eventOutcome s e) : ∃ c ∈ s.consequenceRows, exec c s = .next t.settle :=
    row (List.mem_append_right _ hc) he hx
  cases hwait : s.gather.order.findSome? s.mirrorWaitEvent with
  | some u =>
    obtain rfl : u = t := by simpa [State.consequence, hwait] using h
    obtain ⟨l, hl, he⟩ := State.mirrorWait_order hwait
    exact .inr (.inr (row (c := .mirrorWaitSatisfied l) (by simp [State.consequenceRows, hl]) he rfl))
  | none =>
    simp only [State.consequence, hwait, Option.orElse_eq_orElse, Option.orElse_eq_or, Option.none_or, Option.or_eq_some_iff] at h
    rcases h with h | ⟨-, h | ⟨-, h | ⟨-, h | ⟨-, h | ⟨-, h | ⟨-, h | ⟨-, h | ⟨-, h | ⟨-, h | ⟨-, h | ⟨-, h | ⟨-, h⟩⟩⟩⟩⟩⟩⟩⟩⟩⟩⟩⟩
    · exact .inl h
    · exact .inr (.inr (single (c := .fillAnnounce) (by simp) h rfl))
    · exact .inr (.inr (single (c := .fillPhase2) (by simp) h rfl))
    · exact .inr (.inr (single (c := .scanReading) (by simp) h rfl))
    · exact .inr (.inr (single (c := .runIssue) (by simp) h rfl))
    · exact .inr (.inl h)
    · exact .inr (.inr (single (c := .flushAllComplete) (by simp) h rfl))
    · exact .inr (.inr (single (c := .softResetComplete) (by simp) h rfl))
    · exact .inr (.inr (single (c := .placementRetry) (by simp) h rfl))
    · obtain ⟨w, -, he⟩ := List.exists_of_findSome?_eq_some h
      exact .inr (.inr (row (c := .drainComplete w) (by simp [State.consequenceRows, allWindows]) he rfl))
    · exact .inr (.inr (single (c := .releasePhase2) (by simp) h rfl))
    · exact .inr (.inr (single (c := .hostResponse) (by simp) h rfl))
    · exact .inr (.inr (single (c := .scanStart) (by simp) h rfl))

/-- Taking at most k consequences runs through a chain of them. -/
theorem settleFor_chain (k : Nat) (s : State) :
    ∃ (n : Nat) (chain : Nat → State), n ≤ k ∧ chain 0 = s ∧ chain n = State.settleFor k s ∧
      (∀ i < n, (chain i).consequence = some (chain (i + 1))) ∧ (n = k ∨ (State.settleFor k s).consequence = none) := by
  induction k generalizing s with
  | zero => exact ⟨0, fun _ => s, le_refl 0, rfl, rfl, fun i hi => absurd hi (Nat.not_lt_zero i), .inl rfl⟩
  | succ k ih =>
    unfold State.settleFor
    cases hc : s.consequence with
    | none => exact ⟨0, fun _ => s, Nat.zero_le _, rfl, rfl, fun i hi => absurd hi (Nat.not_lt_zero i), .inr hc⟩
    | some t =>
      obtain ⟨n, chain, hn, hfirst, hlast, hlink, hend⟩ := ih t
      refine ⟨n + 1, fun i => Nat.casesOn i s chain, Nat.succ_le_succ hn, rfl, hlast, fun i hi => ?_, ?_⟩
      · cases i with
        | zero => exact hc.trans (congrArg some hfirst.symm)
        | succ i => exact hlink i (Nat.lt_of_succ_lt_succ hi)
      · exact hend.imp_left (congrArg (· + 1))

/-- Settles O2: each consequence is the event of its row, and `settle` takes a chain of them. -/
theorem settleTakesConsequences : Obligations.SettleTakesConsequences := fun s => by
  refine ⟨fun h => ?_, fun t ht => consequence_row ht, settleFor_chain settleBound s⟩
  obtain ⟨-, hpresent, -, -, -, -, hhalted, -⟩ := consequence_none h
  exact ⟨settle_of_settled (by simp [State.settled, h]), hpresent, hhalted, fun c hc => consequenceRows_idle h hc⟩

/-! ### Timers (R53, R113, R128, R135; log entry 21) -/

theorem Mirror.stalled_iff (m : Mirror) :
    m.stalled = true ↔ m.link ≠ .detached ∧ m.credits = 0 ∧ (if m.sending then 1 else 0) < m.queue.length := by
  simp [Mirror.stalled, and_assoc]

theorem State.idleReached_iff (s : State) (l : LineId) :
    s.idleReached l = true ↔ (s.line l).state = .gathering ∧ s.port.settings.gatherIdle ≠ 0 ∧
      s.port.settings.gatherIdle.toNat ≤ (s.line l).idle := by
  simp [State.idleReached, and_assoc]

theorem State.stallReached_iff (s : State) :
    s.stallReached = true ↔ s.mirror.stalled = true ∧ s.port.settings.mirrorStall ≠ 0 ∧
      1000 * s.port.settings.mirrorStall.toNat ≤ s.mirror.stall := by
  simp only [State.stallReached, Bool.and_eq_true, bne_iff_ne, decide_eq_true_eq, and_assoc]
  rw [Nat.mul_comm 1000, Config.ticksPerMs]

theorem State.timeoutReached_iff (s : State) :
    s.timeoutReached = true ↔ s.link.halted = false ∧ s.port.settings.memTimeout ≠ 0 ∧
      ∃ o rest, s.link.outstanding = o :: rest ∧ s.port.settings.memTimeout.toNat ≤ o.age := by
  cases h : s.link.outstanding <;> simp [State.timeoutReached, h, and_assoc]

theorem State.quietReached_iff (s : State) (w : WindowId) :
    s.quietReached w = true ↔ (s.win w).state = .armed ∧ (s.win w).quiet ≠ 0 ∧
      ∃ k, (s.win w).timer = .timing k ∧ 100 * (s.win w).quiet.toNat ≤ k := by
  cases h : (s.win w).timer <;> simp [State.quietReached, h, and_assoc, Config.ticksPerQuietUnit, Nat.mul_comm]

theorem State.idleDue_iff (s : State) (l : LineId) :
    s.idleDue l = true ↔ l ∈ s.ripe.idle ∧ (s.line l).state = .gathering ∧ (s.line l).idle ≠ 0 := by
  simp [State.idleDue, and_assoc]

theorem State.stallDue_iff (s : State) :
    s.stallDue = true ↔ s.ripe.stall = true ∧ s.mirror.stalled = true ∧ s.mirror.stall ≠ 0 := by
  simp [State.stallDue, and_assoc]

theorem State.timeoutDue_iff (s : State) :
    s.timeoutDue = true ↔ s.ripe.timeout = true ∧ s.link.halted = false ∧ s.link.outstanding ≠ [] := by
  simp [State.timeoutDue, and_assoc]

theorem State.quietDue_iff (s : State) (w : WindowId) :
    s.quietDue w = true ↔
      w ∈ s.ripe.quiet ∧ (s.win w).state = .armed ∧ ∃ k, (s.win w).timer = .timing k ∧ k ≠ 0 := by
  cases h : (s.win w).timer <;> simp [State.quietDue, h, and_assoc]

/-! ### The tick -/

theorem State.tick_win (s : State) (w : WindowId) : s.tick.win w = (s.win w).tick := by
  simp [State.win, State.tick, State.ripen]

theorem Window.tick_idle {x : Window} (h : x.timer = .idle) : x.tick = x := by simp [Window.tick, h]

theorem Window.tick_timing {x : Window} {k : Nat} (h : x.timer = .timing k) :
    x.tick = { x with timer := .timing (if x.state = .armed ∧ x.quiet ≠ 0 then k + 1 else k) } := by
  by_cases hc : x.state = .armed ∧ x.quiet ≠ 0
  · have hyes : (x.state == .armed && x.quiet != 0) = true := by simpa using hc
    rw [Window.tick, h, if_pos hc]
    simp only [hyes, if_true]
  · have hno : (x.state == .armed && x.quiet != 0) = false := by simpa using hc
    rw [Window.tick, h, if_neg hc]
    simp only [hno, Bool.false_eq_true, if_false]
    rw [← h]

/-- What a tick marks, of the state that it leaves (log entry 21). -/
theorem State.tick_ripe (s : State) :
    s.tick.ripe = { idle := allLines.filter s.tick.idleReached, stall := s.tick.stallReached
                    timeout := s.tick.timeoutReached, quiet := allWindows.filter s.tick.quietReached } := rfl

/-- Where no command waits and the bridge has no event of its own, a step is one REFCLK period (log entry 3). -/
theorem State.step_refclk {s : State} (hq : s.pending = []) (ho : s.ownEvent = none) : step s = .next s.refclk := by
  simp [step, hq, State.idleStep, ho]

/-- Settles O3: the idle step is a REFCLK period, whose tick is the blocks' own ticks, and a timer is due by its mark and its own
state. -/
theorem emptyQueueCountsTime : Obligations.EmptyQueueCountsTime := by
  refine ⟨fun s hq ho => ⟨fun hleft => ?_, fun hleft => ?_⟩, fun s => ⟨s.idleDue_iff, ?due, s.timeoutDue_iff, s.quietDue_iff⟩⟩
  · rw [State.step_refclk hq ho, State.refclk, if_neg (by omega)]
  case due => rw [s.stallDue_iff, Mirror.stalled_iff]
  · let u : State := { s with refLeft := s.port.settings.prescale.toNat + 1 }
    have hmirror : u.tick.mirror = s.mirror.tick := rfl
    have hline (l : LineId) : u.tick.line l = (s.line l).tick := u.tick_line l
    have hwin (w : WindowId) : u.tick.win w = (s.win w).tick := u.tick_win w
    refine ⟨u.tick, ?_, rfl, fun l => ?_, fun h => ?_, fun h => ?_, rfl, fun w h => ?_, fun w k h => ?_, rfl, rfl, rfl, rfl, rfl,
      rfl, fun l => ?_, ?_, ?_, fun w => ?_⟩
    · rw [State.step_refclk hq ho, State.refclk, if_pos hleft]
    · rw [hline, Line.tick]
      simp
    · rw [hmirror, Mirror.tick, if_pos ((Mirror.stalled_iff _).mpr h)]
    · rw [hmirror, Mirror.tick, if_neg (fun hs => h ((Mirror.stalled_iff _).mp hs))]
    · rw [hwin, Window.tick_idle h]
    · rw [hwin, Window.tick_timing h]
    · rw [State.tick_ripe, List.mem_filter, State.idleReached_iff]
      simp [allLines, u]
    · rw [State.tick_ripe, State.stallReached_iff, Mirror.stalled_iff]
      rfl
    · rw [State.tick_ripe, State.timeoutReached_iff]
      rfl
    · rw [State.tick_ripe, List.mem_filter, State.quietReached_iff]
      simp [allWindows]

/-! ### Device reset (R174) -/

/-- WRITEs in flight are performed or not, in their order: those performed are a part of the list (log entry 6). -/
theorem lateWrites_sublist (os : List Outstanding) (s : State) :
    ∃ late : List Outstanding, late.Sublist os ∧
      (os.foldl State.lateWrite s).memory = late.foldl (fun m x => if x.req.write then m.perform x.req else m) s.memory := by
  induction os generalizing s with
  | nil => exact ⟨[], List.Sublist.refl [], rfl⟩
  | cons o os ih =>
    obtain ⟨late, hsub, hmem⟩ := ih (s.lateWrite o)
    by_cases hp : (s.lateWrite o).memory = if o.req.write then s.memory.perform o.req else s.memory
    · exact ⟨o :: late, hsub.cons_cons o, by rw [List.foldl_cons, List.foldl_cons, hmem, hp]⟩
    · have hkept : (s.lateWrite o).memory = s.memory := by
        unfold State.lateWrite at hp ⊢
        split
        · next hw =>
          rw [if_pos hw, if_pos hw] at hp
          dsimp only at hp ⊢
          split
          · next hl => rw [if_pos hl] at hp; exact absurd rfl hp
          · rfl
        · rfl
      exact ⟨late, hsub.cons o, by rw [List.foldl_cons, hmem, hkept]⟩

/-- Settles O4: every block is as after a reset, and of the WRITEs in flight the free value performs a part. -/
theorem deviceResetRestores : Obligations.DeviceResetRestores := by
  refine ⟨fun s => ⟨s.deviceReset, rfl, rfl, rfl, rfl, rfl, rfl, rfl, rfl, rfl, rfl, rfl, rfl, rfl, rfl, rfl, fun h => ?_,
      lateWrites_sublist s.link.outstanding s⟩,
    rfl, State.reset_win, ⟨rfl, rfl, rfl, rfl, rfl, rfl, fun f => by cases f <;> rfl⟩, State.reset_line,
    ⟨rfl, fun i => by simp [Line.blank]⟩, rfl, rfl, rfl, rfl, rfl, State.reset_entry, rfl, rfl, rfl, rfl, rfl, rfl, rfl, rfl, rfl,
    rfl, rfl, rfl, rfl, rfl, by decide⟩
  simp [State.deviceReset, State.lateWrites, h]

end Sys2Proof.Machine
end

section
/-! PROOF. Host ingress: requests taken and checked, the window of a beat, the beats that are done at once, and responses. -/

namespace Sys2Proof.Machine

/-! ### Searches in ascending order -/

/-- A search of an ascending list finds the lowest member with the property. -/
theorem find?_ascending {n : Nat} {l : List (Fin n)} (hl : l.Pairwise (· < ·)) (p : Fin n → Bool) (a : Fin n) :
    l.find? p = some a ↔ a ∈ l ∧ p a = true ∧ ∀ b ∈ l, b < a → p b = false := by
  induction l with
  | nil => simp
  | cons c l ih =>
    obtain ⟨hc, hl⟩ := List.pairwise_cons.mp hl
    rw [List.find?_cons]
    cases hp : p c with
    | true =>
      simp only [Option.some.injEq]
      constructor
      · rintro rfl
        exact ⟨List.mem_cons_self, hp, fun b hb hlt => by
          rcases List.mem_cons.mp hb with rfl | hb
          · exact absurd hlt (lt_irrefl _)
          · exact absurd (hc b hb) (lt_asymm hlt)⟩
      · rintro ⟨ha, -, hlow⟩
        rcases List.mem_cons.mp ha with rfl | ha
        · rfl
        · simp [hlow c List.mem_cons_self (hc a ha)] at hp
    | false =>
      simp only [ih hl]
      constructor
      · rintro ⟨ha, hpa, hlow⟩
        exact ⟨List.mem_cons_of_mem c ha, hpa, fun b hb hlt => by
          rcases List.mem_cons.mp hb with rfl | hb
          · exact hp
          · exact hlow b hb hlt⟩
      · rintro ⟨ha, hpa, hlow⟩
        rcases List.mem_cons.mp ha with rfl | ha
        · rw [hp] at hpa; cases hpa
        · exact ⟨ha, hpa, fun b hb hlt => hlow b (List.mem_cons_of_mem c hb) hlt⟩

/-- A search of all the numbers finds the lowest with the property. -/
theorem find?_finRange {n : Nat} (p : Fin n → Bool) (a : Fin n) :
    (List.finRange n).find? p = some a ↔ p a = true ∧ ∀ b < a, p b = false := by
  rw [find?_ascending (List.pairwise_lt_finRange n)]
  simp

/-- A search of all the numbers fails exactly where none has the property. -/
theorem find?_finRange_none {n : Nat} (p : Fin n → Bool) : (List.finRange n).find? p = none ↔ ∀ a, p a = false := by
  simp

/-! ### The handling of a request -/

theorem State.mapHandling_some {s : State} {h : Handling} (f : Handling → Handling) (hh : s.host.handling = some h) :
    s.mapHandling f = { s with host := { s.host with handling := some (f h) } } := by
  simp [State.mapHandling, hh]

/-- One beat takes a result. -/
theorem Handling.setResults_single (h : Handling) (i : Nat) (r : BeatResult) :
    (h.setResults i i r).results = h.results.mapIdx (fun k x => if k = i then r else x) := by
  simp only [Handling.setResults, ← le_antisymm_iff, eq_comm (a := i)]

theorem mapIdx_single {α : Type} (l : List α) (i : Nat) (r : α) : l.mapIdx (fun k x => if k = i then r else x) = l.set i r := by
  apply List.ext_getElem
  · simp
  · intro k h₁ h₂
    rw [List.getElem_mapIdx, List.getElem_set]
    simp only [eq_comm]

/-- The end of a beat that is being placed (R47, R150). -/
theorem State.endBeat_host {s : State} {h : Handling} (b : HeldBeat) (x : BeatResult) (hh : s.host.handling = some h) :
    s.endBeat b.beat x = s.withBeatEnded h b x := by
  rw [State.endBeat, State.mapHandling_some _ hh, State.withBeatEnded]
  simp only [Handling.goOn, Handling.setResults_single]
  rfl

/-- The end of the next beat (R150). -/
theorem State.endBeat_next {s : State} {h : Handling} (x : BeatResult) (hh : s.host.handling = some h) :
    s.endBeat h.next x = s.withResult h x := by
  rw [State.endBeat, State.mapHandling_some _ hh, State.withResult]
  simp only [Handling.goOn, Handling.setResults_single, mapIdx_single]
  rfl

/-- BEAT_HANDLE handles the next beat under its class (R150). -/
theorem exec_beatHandle {s : State} {h : Handling} {r : HostRequest} (hr : s.readyFor h r) :
    exec .beatHandle s = .next (s.handleBeat h r h.next).settle := by
  obtain ⟨hh, hq, ha, hn⟩ := hr
  refine eventOutcome_some (e := s.beatEvent) ?_
  simp only [State.beatEvent, State.headRequest, hh, hq]
  rw [if_pos ⟨ha, hn⟩]

/-! ### Requests (R148, R149) -/

theorem HostSide.takeWaiting_taking_eq {x : HostSide} (h : x.taking = true) :
    x.takeWaiting =
      { x with
        queue := x.queue ++ x.waiting.take (4 - x.queue.length), waiting := x.waiting.drop (4 - x.queue.length) } := by
  rw [HostSide.takeWaiting, if_pos h, Config.ingressPlaces]

theorem HostSide.takeWaiting_stopped {x : HostSide} (h : x.taking = false) : x.takeWaiting = x := by
  rw [HostSide.takeWaiting, if_neg (by simp [h])]

/-- Where the ingress queue is full, nothing is taken. -/
theorem HostSide.takeWaiting_full {x : HostSide} (h : 4 ≤ x.queue.length) : x.takeWaiting = x := by
  cases ht : x.taking with
  | false => exact HostSide.takeWaiting_stopped ht
  | true => rw [HostSide.takeWaiting_taking_eq ht, Nat.sub_eq_zero_of_le h, List.take_zero, List.drop_zero, List.append_nil]

/-- A request is taken at once where there is room and no other waits. -/
theorem State.presentRequest_taken {s : State} (r : HostRequest) (ht : s.host.taking = true) (hl : s.host.queue.length < 4)
    (hw : s.host.waiting = []) : s.presentRequest r = { s with host := { s.host with queue := s.host.queue ++ [r] } } := by
  obtain ⟨n, hn⟩ : ∃ n, 4 - s.host.queue.length = n + 1 := ⟨3 - s.host.queue.length, by omega⟩
  rw [State.presentRequest, HostSide.takeWaiting_taking_eq (by exact ht)]
  simp only [hw, List.nil_append, hn, List.take_succ_cons, List.take_nil, List.drop_succ_cons, List.drop_nil]

/-- A request that cannot be taken waits on the link. -/
theorem State.presentRequest_waits {s : State} (r : HostRequest) (h : s.host.taking = false ∨ 4 ≤ s.host.queue.length) :
    s.presentRequest r = { s with host := { s.host with waiting := s.host.waiting ++ [r] } } := by
  rcases h with h | h
  · rw [State.presentRequest, HostSide.takeWaiting_stopped (by exact h)]
  · rw [State.presentRequest, HostSide.takeWaiting_full (by exact h)]

theorem requestAligned_iff (r : HostRequest) :
    requestAligned r = true ↔ (requestAddr r).toNat % 4 = 0 ∧
      (requestAddr r).toNat / 4096 = ((requestAddr r).toNat + 4 * (requestLength r - 1)) / 4096 := by
  simp [requestAligned, requestBeatAddr]

/-- The response of the head request, which leaves the queue (R148, R157). -/
theorem State.respond_head {s : State} {r : HostRequest} {rest : List HostRequest} (x : HostResponse)
    (hq : s.host.queue = r :: rest) :
    s.respond x =
      { s with
        host := HostSide.takeWaiting { s.host with queue := rest, handling := none }
        out := { s.out with responses := s.out.responses ++ [x] } } := by
  rw [State.respond, hq, List.tail_cons]

/-- Settles O5: a request joins those on the link, which are taken while places are free, and the head of the queue is checked. -/
theorem hostRequestsTakenAndChecked : Obligations.HostRequestsTakenAndChecked := by
  refine ⟨fun s r => ⟨fun ht hl hw => ?_, fun h => ?_⟩,
    fun x => ⟨HostSide.takeWaiting_stopped, HostSide.takeWaiting_taking_eq⟩, fun s r rest hn hq => ⟨fun ha => ?_, fun ha => ?_⟩⟩
  · rw [← s.presentRequest_taken r ht hl hw]; rfl
  · rw [← s.presentRequest_waits r h]; rfl
  · refine eventOutcome_some (e := s.requestEvent) ?_
    simp only [State.requestEvent, State.headRequest, hn, hq, List.head?_cons, (requestAligned_iff r).mpr ha, if_true]
    rfl
  · refine eventOutcome_some (e := s.requestEvent) ?_
    have hno : requestAligned r = false := Bool.eq_false_iff.mpr fun h => ha ((requestAligned_iff r).mp h)
    simp only [State.requestEvent, State.headRequest, hn, hq, List.head?_cons, hno, Bool.false_eq_true, if_false]
    rw [State.respond_head _ hq, faultResponse]

/-! ### The window of a beat, and beats done at once (R24, R151) -/

theorem Window.holds_iff (x : Window) (a : Nat) :
    (x.inUse && x.inHost a) = true ↔ x.state ≠ .off ∧ x.hbase.toNat ≤ a ∧ a < x.hbase.toNat + 4 * x.pixels.toNat := by
  simp only [Window.inUse, Window.inHost, Bool.and_eq_true, bne_iff_ne, decide_eq_true_eq]
  rfl

theorem State.windowAt_eq_some (s : State) (a : Nat) (w : WindowId) :
    s.windowAt a = some w ↔
      ((s.win w).inUse && (s.win w).inHost a) = true ∧ ∀ v < w, ((s.win v).inUse && (s.win v).inHost a) = false :=
  find?_finRange _ w

theorem State.windowAt_eq_none (s : State) (a : Nat) :
    s.windowAt a = none ↔ ∀ w, ((s.win w).inUse && (s.win w).inHost a) = false := find?_finRange_none _

theorem State.classify_armed {s : State} {a : Nat} {w : WindowId} (hw : s.windowAt a = some w) (ha : (s.win w).state = .armed) :
    s.classify a = .translated w := by simp [State.classify, hw, ha]

theorem State.classify_notReady {s : State} {a : Nat} {w : WindowId} (hw : s.windowAt a = some w)
    (ha : (s.win w).state ≠ .armed) : s.classify a = .notReady := by simp [State.classify, hw, ha]

/-- A translated write beat is judged by its strobes (R151). -/
theorem State.handleBeat_write {s : State} {h : Handling} {r : HostRequest} {w : WindowId}
    (hw : s.windowAt (requestBeatAddr r h.next) = some w) (ha : (s.win w).state = .armed) (hr : requestIsRead r = false) :
    s.handleBeat h r h.next = s.writeBeat w h.next (requestBeat r h.next) := by
  simp only [State.handleBeat, State.classify_armed hw ha, hr, Bool.false_eq_true, if_false]

theorem BeatResult.isDone_iff (x : BeatResult) : x.isDone = true ↔ (∃ d, x = .done d) ∨ ∃ c, x = .fault c := by
  cases x <;> simp [BeatResult.isDone]

/-- Settles O6: a beat's window is the lowest that holds its address, its class and strobes say what becomes of it at once, and the
response is made of the results. -/
theorem beatsAndResponses : Obligations.BeatsAndResponses := by
  refine ⟨fun s a => ⟨fun w => ?found, ?none⟩, fun s h r w hr hw => ⟨fun ha => ?notReady, fun ha hk h0 => ?noStrobe,
    fun ha hk h0 h15 => ?someStrobes⟩, fun s h r rest hh hq ha hl hd => ?response⟩
  case found =>
    rw [State.windowAt_eq_some, Window.holds_iff]
    simp only [← Bool.not_eq_true, Window.holds_iff]
  case none =>
    rw [State.windowAt_eq_none]
    simp only [← Bool.not_eq_true, Window.holds_iff]
  case notReady =>
    rw [exec_beatHandle hr, State.handleBeat, State.classify_notReady hw ha]
    simp only [State.endBeat_next _ hr.1]
  case noStrobe =>
    rw [exec_beatHandle hr, State.handleBeat_write hw ha hk, State.writeBeat, if_neg (by simp [h0]), if_pos h0,
      State.endBeat_next _ hr.1]
  case someStrobes =>
    rw [exec_beatHandle hr, State.handleBeat_write hw ha hk, State.writeBeat, if_neg h15, if_neg h0, State.endBeat_next _ hr.1]
  case response =>
    refine eventOutcome_some (e := s.responseEvent) ?_
    have hall : h.results.all BeatResult.isDone = true := List.all_eq_true.mpr fun x hx => (BeatResult.isDone_iff x).mpr (hd x hx)
    simp only [State.responseEvent, State.headRequest, hh, hq, List.head?_cons, ha, hall, hl, beq_self_eq_true, decide_true,
      Bool.and_self, if_true]
    rw [State.respond_head _ hq]
    rfl

end Sys2Proof.Machine
end

section
/-! PROOF. Placement: the lines an attempt finds, the slot write, and the reverse lookup. -/

namespace Sys2Proof.Machine

/-! ### The line of an attempt (R46, R48) -/

theorem Line.holds_iff (ln : Line) (w : WindowId) (g : Nat) :
    ln.holds w g = true ↔ ln.state ≠ .free ∧ ln.window = w ∧ ln.group = g := by
  simp only [Line.holds, Bool.and_eq_true, bne_iff_ne, beq_iff_eq, and_assoc]

theorem State.findLine_eq_some (s : State) (w : WindowId) (g : Nat) (l : LineId) :
    s.findLine w g = some l ↔ (s.line l).holds w g = true ∧ ∀ k < l, (s.line k).holds w g = false := find?_finRange _ l

theorem State.findLine_none_iff (s : State) (w : WindowId) (g : Nat) :
    s.findLine w g = none ↔ ∀ l, (s.line l).holds w g = false := find?_finRange_none _

theorem State.freeLineId_eq_some (s : State) (l : LineId) :
    s.freeLineId = some l ↔ (s.line l).state = .free ∧ ∀ k < l, (s.line k).state ≠ .free := by
  rw [State.freeLineId, allLines, find?_finRange]
  simp

theorem State.freeLineId_eq_none (s : State) : s.freeLineId = none ↔ ∀ l, (s.line l).state ≠ .free := by
  rw [State.freeLineId, allLines, find?_finRange_none]
  simp

/-- A target line is GATHERING for the beat's group (R48). -/
theorem State.targets_line {s : State} {b : HeldBeat} {l : LineId} {ln : Line} (h : s.targets b l ln) :
    (s.line l).target b = ln ∧ ln.state = .gathering ∧ ln.window = b.window ∧ ln.group = b.group := by
  rcases h with ⟨hl, hg, rfl⟩ | ⟨-, hf, rfl⟩
  · obtain ⟨-, hw, hgr⟩ := (Line.holds_iff ..).mp ((s.findLine_eq_some ..).mp hl).1
    exact ⟨by simp [Line.target, hg], hg, hw, hgr⟩
  · exact ⟨by simp [Line.target, State.freeLineId_free hf], rfl, rfl, rfl⟩

/-- An attempt that finds its line stores there (R46). -/
theorem State.attemptCore_store {s : State} {b : HeldBeat} {l : LineId} {ln : Line} (h : s.targets b l ln) :
    s.attemptCore b = s.store b l := by
  rcases h with ⟨hl, hg, -⟩ | ⟨hn, hf, -⟩
  · simp [State.attemptCore, hl, hg]
  · simp [State.attemptCore, hn, hf]

/-- A target line that is not FREE before is itself the target's contents. -/
theorem State.targets_state {s : State} {b : HeldBeat} {l : LineId} {ln : Line} (h : s.targets b l ln) :
    (s.line l).state = .free ∨ s.line l = ln := by
  rcases h with ⟨-, -, rfl⟩ | ⟨-, hf, -⟩
  · exact .inr rfl
  · exact .inl (State.freeLineId_free hf)

/-! ### The slot write (R48, R49, R50) -/

/-- A line once a value has gone into a slot. -/
def Line.written (ln : Line) (i : SlotId) (v : Stored) (mark : Half) : Line :=
  { ln with slots := ln.slots.set i (some v), mark := mark, idle := 0 }

/-- The age list once line l gathers. -/
def State.ageWith (s : State) (l : LineId) : List LineId :=
  if (s.line l).state = .free then s.gather.age ++ [l] else s.gather.age

/-- The colour table after a slot write (R49, R87). -/
def ColourTable.written (t : ColourTable) (w : Window) (v : Stored) (old : Option Stored) : ColourTable :=
  if w.adaptive then
    match old with
    | none => t.addCount (w.entryOf v) 1
    | some v' => if w.entryOf v = w.entryOf v' then t else (t.addCount (w.entryOf v) 1).subCount (w.entryOf v') 1
  else t

theorem State.slotCounts_eq (s : State) (w : Window) (v : Stored) (o : Option Stored) :
    s.slotCounts w v o = { s with colour := s.colour.written w v o } := by
  unfold State.slotCounts ColourTable.written
  cases w.adaptive with
  | false => rfl
  | true =>
    cases o with
    | none => rfl
    | some v' =>
      simp only [if_true]
      split <;> rfl

/-- What the scan unit is told of a write (R49, R142). -/
def ScanUnit.disturbedBy (x : ScanUnit) (w : WindowId) : ScanUnit :=
  if x.reserved = true ∧ x.window = w then { x with disturbed := true } else x

theorem State.reportWrite_eq (s : State) (w : WindowId) :
    s.reportWrite w =
      { s with windows := s.windows.set w { s.win w with dirty := true, timer := .timing 0 }, scan := s.scan.disturbedBy w } := by
  by_cases h : s.scan.reserved = true ∧ s.scan.window = w
  · rw [ScanUnit.disturbedBy, if_pos h]
    exact if_pos (by simpa using h)
  · rw [ScanUnit.disturbedBy, if_neg h]
    exact if_neg (by simpa using h)

/-- A slot write before the flush that it may start. -/
def State.stored (s : State) (b : HeldBeat) (l : LineId) (ln : Line) (v : Stored) : State :=
  { s with
    gather :=
      { s.gather with
        lines := s.gather.lines.set l (ln.written b.slot v s.mirror.enqueued)
        age := s.ageWith l }
    colour := s.colour.written (s.win b.window) v ln.slots[b.slot]
    windows := s.windows.set b.window { s.win b.window with dirty := true, timer := .timing 0 }
    scan := s.scan.disturbedBy b.window }

theorem State.slotWrite_eq (s : State) (b : HeldBeat) (l : LineId) (v : Stored) :
    s.slotWrite b l v = (s.stored b l ((s.line l).target b) v).flushAfterWrite l := by
  by_cases h : (s.line l).state = .free
  · simp only [State.slotWrite, h, beq_self_eq_true, if_true, State.slotCounts_eq, State.reportWrite_eq, State.stored, State.ageWith]
    rfl
  · simp only [State.slotWrite, h, beq_iff_eq, if_false, State.slotCounts_eq, State.reportWrite_eq, State.stored, State.ageWith]
    rfl

theorem State.stored_line (s : State) (b : HeldBeat) (l k : LineId) (ln : Line) (v : Stored) :
    (s.stored b l ln v).line k = if l = k then ln.written b.slot v s.mirror.enqueued else s.line k :=
  s.line_setLine l k _

theorem State.stored_win (s : State) (b : HeldBeat) (l : LineId) (ln : Line) (v : Stored) (w : WindowId) :
    (s.stored b l ln v).win w = if b.window = w then { s.win b.window with dirty := true, timer := .timing 0 } else s.win w :=
  s.win_setWin b.window w _

/-- Which flush a slot write starts (R50). -/
def Window.flushOf (w : Window) (ln : Line) : Option FlushCause :=
  if w.state = .draining then some .disarm else if ln.complete w then some .complete else none

theorem Window.flushOf_full {w : Window} {ln : Line} (hd : w.state ≠ .draining) (hf : ln.isFull w) :
    w.flushOf ln = some .complete := by
  rw [Window.flushOf, if_neg hd, if_pos ((ln.complete_iff w).mpr hf)]

theorem Window.flushOf_none {w : Window} {ln : Line} (hd : w.state ≠ .draining) (hf : ¬ln.isFull w) : w.flushOf ln = none := by
  rw [Window.flushOf, if_neg hd, if_neg fun h => hf ((ln.complete_iff w).mp h)]

/-- The slot write: the line, the lists of the gather buffer, and the blocks that it reports to (R48, R49, R50). -/
theorem State.slotWrite_spec {s : State} {b : HeldBeat} {l : LineId} {ln : Line} (v : Stored) (hln : (s.line l).target b = ln)
    (hg : ln.state = .gathering) (hw : ln.window = b.window) :
    let u := s.slotWrite b l v
    let w := s.win b.window
    let new := ln.written b.slot v s.mirror.enqueued
    u = (match w.flushOf new with
      | none => s.stored b l ln v
      | some c =>
        { s.stored b l ln v with
          gather :=
            { s.gather with
              lines := s.gather.lines.set l (new.inFlush w c)
              age := (s.ageWith l).filter (· != l)
              order := s.gather.order ++ [l] } }) := by
  intro u w new
  have hl : (s.stored b l ln v).line l = new := by rw [State.stored_line, if_pos rfl]
  have hv : (s.stored b l ln v).win new.window = { w with dirty := true, timer := .timing 0 } := by
    rw [State.stored_win]
    exact if_pos hw.symm
  have hflush (c : FlushCause) : (s.stored b l ln v).startFlush l c =
      { s.stored b l ln v with
        gather :=
          { s.gather with
            lines := s.gather.lines.set l (new.inFlush w c)
            age := (s.ageWith l).filter (· != l)
            order := s.gather.order ++ [l] } } := by
    rw [State.startFlush_gathering _ _ _ (by rw [hl]; exact hg), hl, hv]
    simp only [State.stored, Vector.set_set]
    rfl
  simp only [u, State.slotWrite_eq, hln, State.flushAfterWrite, hl, hv, beq_iff_eq, Window.flushOf]
  by_cases hd : w.state = .draining
  · simp only [hd, if_true, hflush]
  · simp only [hd, if_false]
    cases hc : new.complete w with
    | true => simp only [show new.complete { w with dirty := true, timer := .timing 0 } = true from hc, if_true, hflush]
    | false =>
      simp only [show new.complete { w with dirty := true, timer := .timing 0 } = false from hc, Bool.false_eq_true, if_false]

theorem filter_bne {α : Type} [DecidableEq α] (l : List α) (a : α) : l.filter (· != a) = l.filter (· ≠ a) := by
  refine List.filter_congr fun x _ => ?_
  by_cases h : x = a <;> simp [h]

/-- A beat whose value is stored: what the event does to the line, to the lists, and to every other block (R48, R49, R50). -/
theorem State.placed_spec {s : State} {b : HeldBeat} {l : LineId} {ln : Line} {h : Handling} (v : Stored)
    (hh : s.host.handling = some h) (hln : (s.line l).target b = ln) (hg : ln.state = .gathering) (hlw : ln.window = b.window) :
    let u := s.placed b l v
    let w := s.win b.window
    let new := ln.written b.slot v s.mirror.enqueued
    ((w.state = .draining → u.line l = new.inFlush w .disarm) ∧
      (w.state ≠ .draining → new.isFull w → u.line l = new.inFlush w .complete) ∧
      (w.state = .draining ∨ new.isFull w →
        u.gather.age = (s.ageWith l).filter (· ≠ l) ∧ u.gather.order = s.gather.order ++ [l]) ∧
      (w.state ≠ .draining → ¬new.isFull w → u.line l = new ∧ u.gather.age = s.ageWith l ∧ u.gather.order = s.gather.order) ∧
      ∀ k, k ≠ l → u.line k = s.line k) ∧
    u.colour = s.colour.written w v ln.slots[b.slot] ∧
    u.win b.window = { w with dirty := true, timer := .timing 0 } ∧ (∀ x, x ≠ b.window → u.win x = s.win x) ∧
    u.scan = s.scan.disturbedBy b.window ∧ u.host = (s.withBeatEnded h b (.done 0)).host := by
  intro u w new
  have hu : u = (s.slotWrite b l v).endBeat b.beat (.done 0) := rfl
  have hs : s.slotWrite b l v = _ := State.slotWrite_spec v hln hg hlw
  have hcolour : u.colour = s.colour.written w v ln.slots[b.slot] := by
    rw [hu, hs]
    cases w.flushOf new <;> rfl
  have hwin (x : WindowId) : u.win x = if b.window = x then { w with dirty := true, timer := .timing 0 } else s.win x := by
    rw [← s.stored_win b l ln v x, hu, hs]
    cases w.flushOf new <;> rfl
  have hscan : u.scan = s.scan.disturbedBy b.window := by
    rw [hu, hs]
    cases w.flushOf new <;> rfl
  have hhost : u.host = (s.withBeatEnded h b (.done 0)).host := by
    rw [hu, State.endBeat_host b (.done 0) (h := h) (by simp [hh])]
    simp [State.withBeatEnded]
  refine ⟨?_, hcolour, ?_, fun x hx => ?_, hscan, hhost⟩
  · have hline (c : FlushCause) (hc : w.flushOf new = some c) (k : LineId) : u.line k = if l = k then new.inFlush w c else s.line k := by
      rw [← s.line_setLine l k, hu, hs, hc]
      rfl
    have hstay (hc : w.flushOf new = none) (k : LineId) : u.line k = if l = k then new else s.line k := by
      rw [← s.line_setLine l k, hu, hs, hc]
      rfl
    have hlists (c : FlushCause) (hc : w.flushOf new = some c) :
        u.gather.age = (s.ageWith l).filter (· ≠ l) ∧ u.gather.order = s.gather.order ++ [l] := by
      rw [← filter_bne, hu, hs, hc]
      exact ⟨rfl, rfl⟩
    have hkept (hc : w.flushOf new = none) : u.gather.age = s.ageWith l ∧ u.gather.order = s.gather.order := by
      rw [hu, hs, hc]
      exact ⟨rfl, rfl⟩
    refine ⟨fun hd => ?_, fun hd hf => ?_, fun hd => ?_, fun hd hf => ?_, fun k hk => ?_⟩
    · rw [hline .disarm (if_pos hd), if_pos rfl]
    · rw [hline .complete (Window.flushOf_full hd hf), if_pos rfl]
    · by_cases hd' : w.state = .draining
      · exact hlists .disarm (if_pos hd')
      · exact hlists .complete (Window.flushOf_full hd' (hd.resolve_left hd'))
    · have hn := Window.flushOf_none hd hf
      exact ⟨(hstay hn l).trans (if_pos rfl), hkept hn⟩
    · cases hc : w.flushOf new with
      | none => rw [hstay hc, if_neg (Ne.symm hk)]
      | some c => rw [hline c hc, if_neg (Ne.symm hk)]
  · rw [hwin, if_pos rfl]
  · rw [hwin, if_neg (Ne.symm hx)]

end Sys2Proof.Machine
end

section
/-! PROOF. Pixel writes: the value, the line it goes to, the counts, and the allocation of an entry. -/

namespace Sys2Proof.Machine

theorem ColourTable.written_other {t : ColourTable} {w : Window} (h : w.adaptive = false) (v : Stored) (o : Option Stored) :
    t.written w v o = t := if_neg (by simp [h])

theorem ColourTable.written_new {t : ColourTable} {w : Window} (h : w.adaptive = true) (v : Stored) :
    t.written w v none = t.addCount (w.entryOf v) 1 := if_pos h

theorem ColourTable.written_replacing {t : ColourTable} {w : Window} (h : w.adaptive = true) (v v' : Stored) :
    t.written w v (some v') =
      if w.entryOf v = w.entryOf v' then t else (t.addCount (w.entryOf v) 1).subCount (w.entryOf v') 1 :=
  if_pos h

/-- An attempt that finds its line ends as its choice says (R46, R47). -/
theorem exec_attempt {s : State} {c : Instr} {h : Handling} {b : HeldBeat} {l : LineId} {ln : Line} (ha : s.attemptsBeat c h b)
    (ht : s.targets b l ln) : exec c s = .next (s.store b l).dropReserve.settle := by
  rw [State.attemptsBeat_exec ha, State.attempt, State.attemptCore_store ht]

theorem State.choose_encoded {s : State} {b : HeldBeat} {v : Stored} (h : (s.win b.window).encode b.word = some v) :
    s.choose b = .value v := by simp only [State.choose, h]

section
variable {s : State} {b : HeldBeat} {e : EntryId} (hn : (s.win b.window).encode b.word = none)
include hn

/-! An indexed pixel is chosen by the reverse lookup (R47). -/

theorem State.choose_found (h : s.colour.lookup (s.win b.window) (pixelColour b.word) = .found e) :
    s.choose b = .value ((s.win b.window).indexOf e) := by simp only [State.choose, hn, h]

theorem State.choose_allocate (h : s.colour.lookup (s.win b.window) (pixelColour b.word) = .allocate e) :
    s.choose b = if s.canAllocate then .allocate e else .space := by simp only [State.choose, hn, h]

theorem State.choose_noEntry (h : s.colour.lookup (s.win b.window) (pixelColour b.word) = .noEntry) :
    s.choose b = .fault .noEntry := by simp only [State.choose, hn, h]

theorem State.choose_exhausted (h : s.colour.lookup (s.win b.window) (pixelColour b.word) = .exhausted) :
    s.choose b = if b.retry then .fault .exhausted else .claim := by simp only [State.choose, hn, h]

end

/-- Settles O8: the value goes into the slot of the target line, and the event does the rest of the slot write. -/
theorem pixelWriteFillsSlot : Obligations.PixelWriteFillsSlot := by
  intro s c h b l ln v w new age ha ht hv
  obtain ⟨hln, hg, hlw, -⟩ := State.targets_line ht
  have hchoose : s.choose b = .value v := by
    rcases hv with hv | ⟨hn, e, he, rfl⟩
    · exact State.choose_encoded hv
    · exact State.choose_found hn he
  obtain ⟨⟨hdrain, hfull, hflush, hstay, hother⟩, hcolour, hwin, hwins, hscan, hhost⟩ := State.placed_spec v ha.1 hln hg hlw
  refine ⟨s.placed b l v, ?_, hdrain, hfull, hflush, hstay, hother, fun hn => ?_, fun hn ho => ?_, fun old hn ho => ?_, hwin, hwins,
    hscan, hhost, ?_⟩
  · rw [exec_attempt ha ht, State.store, hchoose]
  · rw [hcolour, ColourTable.written_other hn]
  · rw [hcolour, ho, ColourTable.written_new hn]
  · rw [hcolour, ho, ColourTable.written_replacing hn]
  · simp [State.placed]

theorem fmtOfCode_indexed : ∀ c : Byte, ((fmtOfCode c).getD .p24 = .i8 ↔ c = 3) ∧ ((fmtOfCode c).getD .p24 = .i4 ↔ c = 4) := by
  decide

theorem Window.fmt_i8 (w : Window) : w.fmt = .i8 ↔ w.format = 3 := (fmtOfCode_indexed w.format).1

theorem Window.fmt_i4 (w : Window) : w.fmt = .i4 ↔ w.format = 4 := (fmtOfCode_indexed w.format).2

theorem Window.adaptive_eq (w : Window) : w.adaptive = (w.fmt.indexed && w.tableMode == 1) := by
  have h : (w.format == 3 || w.format == 4) = w.fmt.indexed := by
    rw [Bool.eq_iff_iff]
    simp only [Bool.or_eq_true, beq_iff_eq, ← Window.fmt_i8, ← Window.fmt_i4]
    cases w.fmt <;> decide
  rw [Window.adaptive, h]

/-- A window that stores channels has at least four pixels in a group, is not adaptive, and fills no group with one write. -/
theorem Window.encode_some {w : Window} {x : Word32} {v : Stored} (h : w.encode x = some v) :
    w.adaptive = false ∧ 4 ≤ w.fmt.pixels := by
  cases hf : w.fmt with
  | p24 | p16 | p15 => exact ⟨by rw [Window.adaptive_eq, hf]; rfl, by decide⟩
  | i8 | i4 => simp [Window.encode, hf] at h

theorem Line.not_full_of_one {ln : Line} {w : Window} (hp : 4 ≤ w.fmt.pixels) (hs : ln.slots = Line.blank.slots) (i : SlotId) (v : Stored)
    (m : Half) : ¬(ln.written i v m).isFull w := by
  intro hf
  obtain ⟨j, hj, hij⟩ : ∃ j : SlotId, j.val < 4 ∧ i.val ≠ j.val := by
    by_cases h0 : i.val = 0
    · exact ⟨1, by decide, by rw [h0]; decide⟩
    · exact ⟨0, by decide, h0⟩
  have := hf j (by omega)
  simp [Line.written, hs, Line.blank, hij] at this

/-- Settles O7: a write whose group no line holds goes to the lowest FREE line. -/
theorem pixelWriteTakesFreeLine : Obligations.PixelWriteTakesFreeLine := by
  refine ⟨fun s w g => ⟨fun l => ?found, ?none, fun l => s.freeLineId_eq_some l, s.freeLineId_eq_none⟩,
    fun s c h b l v ha harmed hv hn hl => ?write⟩
  case found =>
    rw [State.findLine_eq_some, Line.holds_iff]
    simp only [← Bool.not_eq_true, Line.holds_iff]
  case none =>
    rw [State.findLine_none_iff]
    simp only [← Bool.not_eq_true, Line.holds_iff]
  case write =>
    obtain ⟨hna, hp⟩ := Window.encode_some hv
    obtain ⟨u, hu, -, -, -, hstay, hother, hcolour, -, -, hwin, hwins, -, hhost, hm, he, hlk, hf, hpo, hme⟩ :=
      pixelWriteFillsSlot s c h b l _ v ha (.inr ⟨hn, hl, rfl⟩) (.inl hv)
    obtain ⟨hline, hage, horder⟩ := hstay (by rw [harmed]; decide) (Line.not_full_of_one hp rfl b.slot v s.mirror.enqueued)
    refine ⟨u, hu, hline, hother, ?_, horder, hwin, hwins, hhost, hcolour hna, hm, he, hlk, hf, hpo, hme⟩
    rw [hage, if_pos (State.freeLineId_free hl)]

/-! ### Counts (R86, R87) -/

theorem ColourTable.addCount_spec (t : ColourTable) (e : EntryId) (n : Nat) :
    (t.addCount e n).entry e = { t.entry e with count := min ((t.entry e).count + n) 67108863 } ∧
      (t.addCount e n).suspect = (t.suspect || decide (67108863 < (t.entry e).count + n)) ∧
      (t.addCount e n).held = t.held ∧ ∀ f, f ≠ e → (t.addCount e n).entry f = t.entry f := by
  rw [ColourTable.addCount, Config.countMax]
  by_cases hb : (t.entry e).count + n ≤ 67108863
  · simp +contextual [hb, not_lt.mpr hb, ne_comm]
  · simp +contextual [hb, not_le.mp hb, le_of_lt (not_le.mp hb), ne_comm]

theorem ColourTable.subCount_spec (t : ColourTable) (e : EntryId) (n : Nat) :
    (t.subCount e n).entry e = { t.entry e with count := (t.entry e).count - n } ∧
      (t.subCount e n).suspect = (t.suspect || decide ((t.entry e).count < n)) ∧
      (t.subCount e n).held = t.held ∧ ∀ f, f ≠ e → (t.subCount e n).entry f = t.entry f := by
  rw [ColourTable.subCount]
  by_cases hb : n ≤ (t.entry e).count
  · simp +contextual [hb, not_lt.mpr hb, ne_comm]
  · simp +contextual [hb, not_le.mp hb, Nat.sub_eq_zero_of_le (le_of_lt (not_le.mp hb)), ne_comm]

theorem State.slotWrite_colour (s : State) (b : HeldBeat) (l : LineId) (v : Stored) :
    (s.slotWrite b l v).colour = s.colour.written (s.win b.window) v ((s.line l).target b).slots[b.slot] := by
  rw [State.slotWrite_eq, State.flushAfterWrite]
  split
  · simp only [State.startFlush_fields]; rfl
  · split
    · simp only [State.startFlush_fields]; rfl
    · rfl

/-- The counts of a slot write in an adaptive window balance (R49, R87). -/
theorem ColourTable.written_counts {t : ColourTable} {w : Window} (ha : w.adaptive = true) {v : Stored} {old : Option Stored}
    (hv : (t.entry (w.entryOf v)).count < 67108863) (ho : ∀ v', old = some v' → 0 < (t.entry (w.entryOf v')).count) :
    (t.written w v old).suspect = t.suspect ∧
      ∀ e, ((t.written w v old).entry e).count + (if old.map w.entryOf = some e then 1 else 0) =
        (t.entry e).count + (if w.entryOf v = e then 1 else 0) := by
  have hadd := t.addCount_spec (w.entryOf v) 1
  obtain ⟨-, hs, -, -⟩ := hadd
  rw [decide_eq_false (by omega), Bool.or_false] at hs
  have hcount (e : EntryId) : ((t.addCount (w.entryOf v) 1).entry e).count = (t.entry e).count + (if w.entryOf v = e then 1 else 0) := by
    rw [t.addCount_count]
    split
    · next he => subst he; simp only [Config.countMax]; omega
    · omega
  cases old with
  | none =>
    rw [ColourTable.written_new ha]
    exact ⟨hs, fun e => by simpa using hcount e⟩
  | some v' =>
    rw [ColourTable.written_replacing ha]
    by_cases he : w.entryOf v = w.entryOf v'
    · rw [if_pos he]
      exact ⟨rfl, fun e => by simp [he]⟩
    · rw [if_neg he]
      have hpos := ho v' rfl
      obtain ⟨-, hs', -, -⟩ := (t.addCount (w.entryOf v) 1).subCount_spec (w.entryOf v') 1
      have hc' : ((t.addCount (w.entryOf v) 1).entry (w.entryOf v')).count = (t.entry (w.entryOf v')).count := by
        rw [hcount, if_neg he, Nat.add_zero]
      rw [hs, hc', decide_eq_false (by omega), Bool.or_false] at hs'
      refine ⟨hs', fun e => ?_⟩
      rw [ColourTable.subCount_count, hc', hcount]
      simp only [Option.map_some, Option.some.injEq]
      split
      · next he' => subst he'; simp only [if_neg he]; omega
      · omega

/-- Settles O12: the counts of a slot write, and what one count event does. -/
theorem slotWriteCounts : Obligations.SlotWriteCounts := by
  refine ⟨fun s b l v => ⟨fun hn => ?_, fun ha hv ho => ?_⟩, fun t e es => ⟨rfl, rfl⟩,
    fun t e n _ => ⟨t.addCount_spec e n, t.subCount_spec e n⟩⟩
  · rw [State.slotWrite_colour, ColourTable.written_other hn]
  · have hc := ColourTable.written_counts (t := s.colour) ha hv ho
    rw [← State.slotWrite_colour s b l v] at hc
    exact hc

end Sys2Proof.Machine
end

section
/-! PROOF. The reverse lookup, and what follows from each of its answers. -/

namespace Sys2Proof.Machine

/-! ### Entry ranges and indices (R16, R75) -/

theorem Window.rangeLo_i8 {w : Window} (h : w.fmt = .i8) : w.rangeLo = 0 := by simp only [Window.rangeLo, h]

theorem Window.rangeLen_i8 {w : Window} (h : w.fmt = .i8) : w.rangeLen = 256 := by simp only [Window.rangeLen, h]

theorem Window.rangeLo_i4 {w : Window} (h : w.fmt = .i4) : w.rangeLo = 16 * w.partition.toNat := by simp only [Window.rangeLo, h]

theorem Window.rangeLen_i4 {w : Window} (h : w.fmt = .i4) : w.rangeLen = 16 := by simp only [Window.rangeLen, h]

theorem Window.inRange_iff (w : Window) (e : EntryId) :
    w.inRange e = true ↔ w.rangeLo ≤ e.val ∧ e.val < w.rangeLo + w.rangeLen := by
  simp only [Window.inRange, Bool.and_eq_true, decide_eq_true_eq]

theorem Window.inRange_i8 {w : Window} (h : w.fmt = .i8) (e : EntryId) : w.inRange e = true := by
  rw [Window.inRange_iff, Window.rangeLo_i8 h, Window.rangeLen_i8 h]
  omega

theorem Window.inRange_i4 {w : Window} (h : w.fmt = .i4) (e : EntryId) : w.inRange e = true ↔ e.val / 16 = w.partition.toNat := by
  rw [Window.inRange_iff, Window.rangeLo_i4 h, Window.rangeLen_i4 h]
  omega

theorem Window.indexOf_i8 {w : Window} (h : w.fmt = .i8) (e : EntryId) : w.indexOf e = .index8 (BitVec.ofNat 8 e.val) := by
  simp only [Window.indexOf, h]

theorem Window.indexOf_i4 {w : Window} (h : w.fmt = .i4) {e : EntryId} (he : w.inRange e = true) :
    w.indexOf e = .index4 (BitVec.ofNat 4 e.val) := by
  rw [Window.inRange_i4 h] at he
  simp only [Window.indexOf, h, Stored.index4.injEq]
  apply BitVec.eq_of_toNat_eq
  simp only [BitVec.toNat_ofNat]
  omega

theorem Window.adaptive_fmt {w : Window} (h : w.adaptive = true) : w.fmt = .i8 ∨ w.fmt = .i4 := by
  rw [Window.adaptive_eq] at h
  cases hf : w.fmt <;> simp_all [Fmt.indexed]

/-- An index names the entry that it was made for (R16, R75). -/
theorem Window.entryOf_indexOf {w : Window} {e : EntryId} (hf : w.fmt = .i8 ∨ w.fmt = .i4) (he : w.inRange e = true) :
    w.entryOf (w.indexOf e) = e := by
  apply Fin.ext
  rcases hf with h | h
  · rw [Window.indexOf_i8 h]
    simp only [Window.entryOf, Fin.ofNat, BitVec.toNat_ofNat]
    omega
  · rw [Window.indexOf_i4 h he]
    rw [Window.inRange_i4 h] at he
    simp only [Window.entryOf, Fin.ofNat, BitVec.toNat_ofNat]
    omega

/-- A window whose table mode is FIXED (2.1). -/
theorem Window.adaptive_fixed {w : Window} (h : w.tableMode = 0) : w.adaptive = false := by simp [Window.adaptive, h]

theorem Window.adaptive_format {w : Window} (h : w.adaptive = true) : w.format = 3 ∨ w.format = 4 := by
  rw [← Window.fmt_i8, ← Window.fmt_i4]
  exact Window.adaptive_fmt h

theorem Window.rangesOverlap_iff (w v : Window) : w.rangesOverlap v = true ↔
    max w.rangeLo v.rangeLo < min (w.rangeLo + w.rangeLen) (v.rangeLo + v.rangeLen) := by
  simp only [Window.rangesOverlap, overlaps, decide_eq_true_eq]

theorem Window.rangesOverlap_i4 {w v : Window} (hw : w.fmt = .i4) (hv : v.fmt = .i4) :
    w.rangesOverlap v = true ↔ w.partition = v.partition := by
  rw [Window.rangesOverlap_iff, Window.rangeLo_i4 hw, Window.rangeLen_i4 hw, Window.rangeLo_i4 hv, Window.rangeLen_i4 hv,
    ← BitVec.toNat_inj]
  omega

theorem Window.range_bounds {w : Window} (h : w.format = 3 ∨ w.format = 4 ∧ w.partition.toNat ≤ 15) :
    0 < w.rangeLen ∧ w.rangeLo + w.rangeLen ≤ 256 := by
  rcases h with h | ⟨h, hp⟩
  · rw [Window.rangeLo_i8 (w.fmt_i8.mpr h), Window.rangeLen_i8 (w.fmt_i8.mpr h)]
    omega
  · rw [Window.rangeLo_i4 (w.fmt_i4.mpr h), Window.rangeLen_i4 (w.fmt_i4.mpr h)]
    omega

/-! ### The nearest entry (R78) -/

/-- Entry e is the nearest to the colour among the entries es, the lowest of them on a tie. -/
def ColourTable.isNearest (t : ColourTable) (c : Colour) (es : List EntryId) (e : EntryId) : Prop :=
  e ∈ es ∧ ∀ x ∈ es, distance c (t.entry e).colour < distance c (t.entry x).colour ∨
    distance c (t.entry e).colour = distance c (t.entry x).colour ∧ e ≤ x

theorem ColourTable.isNearest_unique {t : ColourTable} {c : Colour} {es : List EntryId} {e f : EntryId} (he : t.isNearest c es e)
    (hf : t.isNearest c es f) : e = f := by
  have h₁ := he.2 f hf.1
  have h₂ := hf.2 e he.1
  have : e.val = f.val := by
    simp only [Fin.le_def] at h₁ h₂
    omega
  exact Fin.ext this

/-- One step of the search for the nearest. -/
def ColourTable.nearer (t : ColourTable) (c : Colour) (best : Option EntryId) (e : EntryId) : Option EntryId :=
  match best with
  | none => some e
  | some b => if distance c (t.entry e).colour < distance c (t.entry b).colour then some e else some b

theorem ColourTable.nearest_eq (t : ColourTable) (c : Colour) (es : List EntryId) : t.nearest c es = es.foldl (t.nearer c) none := rfl

theorem ColourTable.nearest_fold (t : ColourTable) (c : Colour) (es : List EntryId) (b : EntryId) (hb : (b :: es).Pairwise (· < ·)) :
    ∃ r, es.foldl (t.nearer c) (some b) = some r ∧ t.isNearest c (b :: es) r := by
  induction es generalizing b with
  | nil => exact ⟨b, rfl, by simp [ColourTable.isNearest]⟩
  | cons e es ih =>
    obtain ⟨hbe, hes⟩ := List.pairwise_cons.mp hb
    rw [List.foldl_cons, ColourTable.nearer]
    by_cases hd : distance c (t.entry e).colour < distance c (t.entry b).colour
    · obtain ⟨r, hr, hmem, hnear⟩ := ih e hes
      refine ⟨r, by rw [if_pos hd, hr], List.mem_cons_of_mem b hmem, fun x hx => ?_⟩
      rcases List.mem_cons.mp hx with rfl | hx
      · have := hnear e List.mem_cons_self
        omega
      · exact hnear x hx
    · have hbes : (b :: es).Pairwise (· < ·) :=
        List.pairwise_cons.mpr ⟨fun x hx => hbe x (List.mem_cons_of_mem e hx), (List.pairwise_cons.mp hes).2⟩
      obtain ⟨r, hr, hmem, hnear⟩ := ih b hbes
      refine ⟨r, by rw [if_neg hd, hr], ?_, fun x hx => ?_⟩
      · rcases List.mem_cons.mp hmem with rfl | hmem
        · exact List.mem_cons_self
        · exact List.mem_cons_of_mem b (List.mem_cons_of_mem e hmem)
      · rcases List.mem_cons.mp hx with rfl | hx
        · exact hnear x List.mem_cons_self
        · rcases List.mem_cons.mp hx with rfl | hx
          · have h₁ := hnear b List.mem_cons_self
            have h₂ := Fin.lt_def.mp (hbe x List.mem_cons_self)
            simp only [Fin.le_def] at h₁ ⊢
            omega
          · exact hnear x (List.mem_cons_of_mem b hx)

/-- The search finds the nearest. -/
theorem ColourTable.nearest_of_isNearest {t : ColourTable} {c : Colour} {es : List EntryId} {e : EntryId}
    (hs : es.Pairwise (· < ·)) (h : t.isNearest c es e) : t.nearest c es = some e := by
  rw [ColourTable.nearest_eq]
  cases es with
  | nil => exact absurd h.1 List.not_mem_nil
  | cons b es =>
    obtain ⟨r, hr, hn⟩ := t.nearest_fold c es b hs
    rw [List.foldl_cons, ColourTable.nearer, hr, ColourTable.isNearest_unique h hn]

/-! ### The lookup (R77, R79 to R85) -/

/-- The entry may answer a lookup of the window. -/
def ColourTable.candidate (t : ColourTable) (w : Window) (e : EntryId) : Prop :=
  w.inRange e = true ∧ if w.adaptive then (t.entry e).isFree = false else (t.entry e).pinned = true

/-- The candidates, in ascending order. -/
def ColourTable.candidates (t : ColourTable) (w : Window) : List EntryId :=
  w.range.filter (fun e => if w.adaptive then !(t.entry e).isFree else (t.entry e).isPinned)

theorem Window.range_ascending (w : Window) : w.range.Pairwise (· < ·) := (List.pairwise_lt_finRange 256).filter _

theorem Window.mem_range (w : Window) (e : EntryId) : e ∈ w.range ↔ w.inRange e = true := by
  simp [Window.range, allEntries]

theorem ColourTable.candidates_ascending (t : ColourTable) (w : Window) : (t.candidates w).Pairwise (· < ·) :=
  w.range_ascending.filter _

theorem ColourTable.mem_candidates (t : ColourTable) (w : Window) (e : EntryId) : e ∈ t.candidates w ↔ t.candidate w e := by
  rw [ColourTable.candidates, List.mem_filter, Window.mem_range, ColourTable.candidate]
  cases w.adaptive <;> simp [Entry.isPinned]

theorem ColourTable.exact_eq_some (t : ColourTable) (w : Window) (c : Colour) (e : EntryId) :
    t.exact c (t.candidates w) = some e ↔
      t.candidate w e ∧ (t.entry e).colour = c ∧ ∀ x < e, t.candidate w x → (t.entry x).colour ≠ c := by
  rw [ColourTable.exact, find?_ascending (t.candidates_ascending w)]
  simp only [ColourTable.mem_candidates, beq_iff_eq, beq_eq_false_iff_ne]
  exact and_congr_right fun _ => and_congr_right fun _ => ⟨fun h x hx hc => h x hc hx, fun h x hc hx => h x hx hc⟩

theorem ColourTable.exact_eq_none (t : ColourTable) (w : Window) (c : Colour) :
    t.exact c (t.candidates w) = none ↔ ∀ x, t.candidate w x → (t.entry x).colour ≠ c := by
  simp [ColourTable.exact, ColourTable.mem_candidates]

theorem ColourTable.candidates_fixed {t : ColourTable} {w : Window} (h : w.adaptive = false) :
    t.candidates w = w.range.filter (fun e => (t.entry e).isPinned) := by simp [ColourTable.candidates, h]

theorem ColourTable.candidates_adaptive {t : ColourTable} {w : Window} (h : w.adaptive = true) :
    t.candidates w = w.range.filter (fun e => !(t.entry e).isFree) := by simp [ColourTable.candidates, h]

theorem Window.faultPolicy_iff (w : Window) : w.faultPolicy = true ↔ w.policy = 1 := by simp [Window.faultPolicy]

/-- No entry of the range is FREE. -/
def ColourTable.noFree (t : ColourTable) (w : Window) : Prop := ∀ x, w.inRange x = true → (t.entry x).isFree = false

theorem ColourTable.find_free_none {t : ColourTable} {w : Window} (h : t.noFree w) :
    w.range.find? (fun e => (t.entry e).isFree) = none := by
  rw [List.find?_eq_none]
  exact fun x hx => by simp [h x ((w.mem_range x).mp hx)]

section
variable {t : ColourTable} {w : Window} {c : Colour} {e : EntryId}

/-- An entry that holds the colour exactly is found, in either table mode (R79, R80). -/
theorem ColourTable.lookup_exact (he : t.exact c (t.candidates w) = some e) : t.lookup w c = .found e := by
  cases h : w.adaptive with
  | true => rw [ColourTable.lookup, if_pos h, ColourTable.lookupAdaptive, ← ColourTable.candidates_adaptive h, he]
  | false => rw [ColourTable.lookup, if_neg (by simp [h]), ColourTable.lookupFixed, ← ColourTable.candidates_fixed h, he]

section
variable (hn : t.exact c (t.candidates w) = none)
include hn

theorem ColourTable.lookup_fixed (h : w.adaptive = false) : t.lookup w c = t.nearestOf c (t.candidates w) := by
  rw [ColourTable.lookup, if_neg (by simp [h]), ColourTable.lookupFixed, ← ColourTable.candidates_fixed h, hn]

theorem ColourTable.lookup_allocate (h : w.adaptive = true) (he : w.range.find? (fun e => (t.entry e).isFree) = some e) :
    t.lookup w c = .allocate e := by
  rw [ColourTable.lookup, if_pos h, ColourTable.lookupAdaptive, ← ColourTable.candidates_adaptive h, hn, he]

theorem ColourTable.lookup_full (h : w.adaptive = true) (hf : t.noFree w) :
    t.lookup w c = if w.faultPolicy then .exhausted else t.nearestOf c (t.candidates w) := by
  rw [ColourTable.lookup, if_pos h, ColourTable.lookupAdaptive, ← ColourTable.candidates_adaptive h, hn,
    ColourTable.find_free_none hf]

end

theorem ColourTable.nearestOf_found (h : t.isNearest c (t.candidates w) e) : t.nearestOf c (t.candidates w) = .found e := by
  rw [ColourTable.nearestOf, ColourTable.nearest_of_isNearest (t.candidates_ascending w) h]

end

theorem ColourTable.nearestOf_none (t : ColourTable) (c : Colour) : t.nearestOf c [] = .noEntry := rfl

/-- What a lookup finds (R79, R80, R83). -/
theorem ColourTable.lookup_found {t : ColourTable} {w : Window} {c : Colour} {e : EntryId}
    (h : t.exact c (t.candidates w) = some e ∨
      t.exact c (t.candidates w) = none ∧ t.isNearest c (t.candidates w) e ∧
        (w.adaptive = true → t.noFree w ∧ w.policy = 0)) : t.lookup w c = .found e := by
  rcases h with he | ⟨hn, hnear, hadaptive⟩
  · exact ColourTable.lookup_exact he
  · cases ha : w.adaptive with
    | false => rw [ColourTable.lookup_fixed hn ha, ColourTable.nearestOf_found hnear]
    | true =>
      obtain ⟨hfree, hpolicy⟩ := hadaptive ha
      rw [ColourTable.lookup_full hn ha hfree, if_neg (by simp [Window.faultPolicy_iff, hpolicy]), ColourTable.nearestOf_found hnear]

/-! ### The pixel writes that look up -/

/-- A count event of a write changes no colour and no pin (R86). -/
theorem ColourTable.written_kept (t : ColourTable) (w : Window) (v : Stored) (o : Option Stored) (x : EntryId) :
    ((t.written w v o).entry x).colour = (t.entry x).colour ∧ ((t.written w v o).entry x).pinned = (t.entry x).pinned := by
  cases ha : w.adaptive with
  | false => rw [ColourTable.written_other ha]; exact ⟨rfl, rfl⟩
  | true =>
    obtain ⟨hc, hp, -⟩ := t.addCount_kept (w.entryOf v) x 1
    cases o with
    | none => rw [ColourTable.written_new ha]; exact ⟨hc, hp⟩
    | some v' =>
      rw [ColourTable.written_replacing ha]
      split
      · exact ⟨rfl, rfl⟩
      · obtain ⟨hc', hp', -⟩ := (t.addCount (w.entryOf v) 1).subCount_kept (w.entryOf v') x 1
        exact ⟨hc'.trans hc, hp'.trans hp⟩

/-- The target line after its write (R48, R49). -/
theorem State.placed_line {s : State} {b : HeldBeat} {l : LineId} {ln : Line} {h : Handling} (v : Stored)
    (hh : s.host.handling = some h) (hln : (s.line l).target b = ln) (hg : ln.state = .gathering) (hlw : ln.window = b.window) :
    let x := (s.placed b l v).line l
    x.slots = ln.slots.set b.slot (some v) ∧ x.mark = s.mirror.enqueued ∧ x.window = ln.window ∧ x.group = ln.group ∧
      x.state ≠ .free := by
  intro x
  obtain ⟨⟨hdrain, hfull, -, hstay, -⟩, -⟩ := State.placed_spec v hh hln hg hlw
  by_cases hd : (s.win b.window).state = .draining
  · rw [show x = _ from hdrain hd]
    exact ⟨rfl, rfl, rfl, rfl, by simp [Line.inFlush]⟩
  · by_cases hf : (ln.written b.slot v s.mirror.enqueued).isFull (s.win b.window)
    · rw [show x = _ from hfull hd hf]
      exact ⟨rfl, rfl, rfl, rfl, by simp [Line.inFlush]⟩
    · rw [show x = _ from (hstay hd hf).1]
      exact ⟨rfl, rfl, rfl, rfl, by simp [Line.written, hg]⟩

theorem State.store_fault {s : State} {b : HeldBeat} {h : Handling} (l : LineId) {x : HostFault} (hh : s.host.handling = some h)
    (hc : s.choose b = .fault x) : s.store b l = s.withBeatEnded h b (.fault x) := by
  rw [State.store, hc]
  exact State.endBeat_host b _ hh

/-- Settles O11: which entry a pixel write of an indexed window takes, and the faults where there is none. -/
theorem pixelWriteLooksUp : Obligations.PixelWriteLooksUp := by
  refine ⟨?write, fun w e => ⟨fun hf => ?index8, fun hf => ?index4⟩, fun w v hw hv => ?overlap⟩
  case write =>
    intro s c h b l ln w col fixed cand exact nearest noExact noFree ha ht
    obtain ⟨hln, hg, hlw, -⟩ := State.targets_line ht
    have hexact {e : EntryId} (he : exact e) : s.colour.exact col (s.colour.candidates w) = some e :=
      (s.colour.exact_eq_some w col e).mpr he
    have hnoExact (hn : noExact) : s.colour.exact col (s.colour.candidates w) = none := (s.colour.exact_eq_none w col).mpr hn
    have hnearest {e : EntryId} (he : nearest e) : s.colour.isNearest col (s.colour.candidates w) e :=
      ⟨(s.colour.mem_candidates w e).mpr he.1, fun x hx => he.2 x ((s.colour.mem_candidates w x).mp hx)⟩
    refine ⟨fun e he => ?found, fun hf hn => ?noEntry, fun hadapt hn hfree hpol hretry => ?exhausted⟩
    case found =>
      have hformat : w.format = 3 ∨ w.format = 4 := by
        rcases he with ⟨⟨hf, -⟩, -⟩ | ⟨hadapt, -⟩
        · exact hf
        · exact Window.adaptive_format hadapt
      have hfound : s.colour.lookup w col = .found e := by
        apply ColourTable.lookup_found
        rcases he with ⟨⟨-, hmode⟩, he | ⟨hn, hnear⟩⟩ | ⟨hadapt, he | ⟨hn, hfree, hpol, hnear⟩⟩
        · exact .inl (hexact he)
        · exact .inr ⟨hnoExact hn, hnearest hnear, fun hadapt => by simp [Window.adaptive_fixed hmode] at hadapt⟩
        · exact .inl (hexact he)
        · exact .inr ⟨hnoExact hn, hnearest hnear, fun _ => ⟨hfree, hpol⟩⟩
      have hchoose : s.choose b = .value (w.indexOf e) := State.choose_found (Window.encode_indexed hformat b.word) hfound
      obtain ⟨-, hcolour, -, -, -, hhost⟩ := State.placed_spec (w.indexOf e) ha.1 hln hg hlw
      refine ⟨s.placed b l (w.indexOf e), by rw [exec_attempt ha ht, State.store, hchoose],
        (State.placed_line _ ha.1 hln hg hlw).1, fun x => ?_, hhost, by simp [State.placed]⟩
      rw [State.entry, hcolour]
      exact s.colour.written_kept ..
    case noEntry =>
      have hnone : s.colour.candidates w = [] :=
        List.eq_nil_iff_forall_not_mem.mpr fun x hx => hn x ((s.colour.mem_candidates w x).mp hx)
      have hlookup : s.colour.lookup w col = .noEntry := by
        rw [ColourTable.lookup_fixed (hnoExact fun x hx => absurd hx (hn x)) (Window.adaptive_fixed hf.2), hnone,
          ColourTable.nearestOf_none]
      rw [exec_attempt ha ht, State.store_fault l ha.1 (State.choose_noEntry (Window.encode_indexed hf.1 b.word) hlookup)]
    case exhausted =>
      have hlookup : s.colour.lookup w col = .exhausted := by
        rw [ColourTable.lookup_full (hnoExact hn) hadapt hfree, if_pos (w.faultPolicy_iff.mpr hpol)]
      have hchoose : s.choose b = .fault .exhausted := by
        rw [State.choose_exhausted (Window.encode_indexed (Window.adaptive_format hadapt) b.word) hlookup, if_pos hretry]
      rw [exec_attempt ha ht, State.store_fault l ha.1 hchoose]
  case index8 =>
    have hfmt := w.fmt_i8.mpr hf
    exact ⟨Window.inRange_i8 hfmt e, Window.indexOf_i8 hfmt e⟩
  case index4 =>
    have hfmt := w.fmt_i4.mpr hf
    exact ⟨Window.inRange_i4 hfmt e, Window.indexOf_i4 hfmt⟩
  case overlap =>
    by_cases h : w.format = 4 ∧ v.format = 4
    · rw [Window.rangesOverlap_i4 (w.fmt_i4.mpr h.1) (v.fmt_i4.mpr h.2)]
      exact ⟨fun he _ => he, fun he => he h⟩
    · refine iff_of_true ?_ fun hn => absurd hn h
      obtain ⟨hwpos, hwhi⟩ := Window.range_bounds hw
      obtain ⟨hvpos, hvhi⟩ := Window.range_bounds hv
      rw [Window.rangesOverlap_iff]
      rcases hw with hw | ⟨hw, -⟩
      · rw [Window.rangeLo_i8 (w.fmt_i8.mpr hw), Window.rangeLen_i8 (w.fmt_i8.mpr hw)]
        omega
      · rcases hv with hv | ⟨hv, -⟩
        · rw [Window.rangeLo_i8 (v.fmt_i8.mpr hv), Window.rangeLen_i8 (v.fmt_i8.mpr hv)]
          omega
        · exact absurd ⟨hw, hv⟩ h

end Sys2Proof.Machine
end

section
/-! PROOF. The allocation of an entry, and the waits of a placement attempt. -/

namespace Sys2Proof.Machine

/-! ### Allocation (R81, R82) -/

/-- The mirror queue after an allocation (R81, R107). -/
def Mirror.allocated (m : Mirror) (e : EntryId) (c : Colour) : Mirror :=
  if m.link = .detached then m else ({ m with reserve := false } : Mirror).enqueue .entry e c

theorem State.allocateEntry_eq (s : State) (e : EntryId) (c : Colour) :
    s.allocateEntry e c =
      { s with colour := s.colour.setEntry e { s.entry e with colour := c }, mirror := s.mirror.allocated e c } := by
  by_cases hl : s.mirror.link = .detached
  · rw [Mirror.allocated, if_pos hl]
    exact if_pos (by simp [hl])
  · rw [Mirror.allocated, if_neg hl]
    refine (if_neg (by simp [hl])).trans ?_
    simp only [State.announce, State.entry, ColourTable.entry_setEntry, if_true]

theorem State.canAllocate_iff (s : State) :
    s.canAllocate = true ↔
      s.mirror.link = .detached ∨ s.colour.held = [] ∧ (s.mirror.reserve = true ∨ s.mirror.level < 16) := by
  simp only [State.canAllocate, Bool.or_eq_true, Bool.and_eq_true, beq_iff_eq, List.isEmpty_iff, Mirror.hasRoom_iff]

theorem Entry.isFree_iff (x : Entry) : x.isFree = true ↔ x.pinned = false ∧ x.count = 0 := by
  simp [Entry.isFree]

/-- The table after an allocation and its slot write (R81, R87). -/
theorem ColourTable.allocated_written {t : ColourTable} {w : Window} {e : EntryId} {v : Stored} {old : Option Stored} (c : Colour)
    (ha : w.adaptive = true) (hv : w.entryOf v = e) (hf : (t.entry e).isFree = true)
    (ho : ∀ x, old.map w.entryOf = some x → 0 < (t.entry x).count) :
    let u := (t.setEntry e { t.entry e with colour := c }).written w v old
    u.entry e = { colour := c, pinned := false, count := 1 } ∧
      (∀ x, x ≠ e → u.entry x = { t.entry x with count := (t.entry x).count - if old.map w.entryOf = some x then 1 else 0 }) ∧
      u.held = t.held ∧ u.suspect = t.suspect := by
  obtain ⟨hpin, hzero⟩ := (Entry.isFree_iff _).mp hf
  intro u
  have hset : (t.setEntry e { t.entry e with colour := c }).entry e = { colour := c, pinned := false, count := 0 } := by
    simp only [ColourTable.entry_setEntry, if_true, hpin, hzero]
  obtain ⟨hentry, hsuspect, hheld, hothers⟩ :=
    (t.setEntry e { t.entry e with colour := c }).addCount_spec e 1
  simp only [hset] at hentry hsuspect
  rw [decide_eq_false (by decide), Bool.or_false, ColourTable.setEntry_suspect] at hsuspect
  have hothers' (x : EntryId) (hx : x ≠ e) :
      ((t.setEntry e { t.entry e with colour := c }).addCount e 1).entry x = t.entry x := by
    rw [hothers x hx, ColourTable.entry_setEntry, if_neg (Ne.symm hx)]
  cases old with
  | none =>
    simp only [u, ColourTable.written_new ha, hv]
    exact ⟨hentry, fun x hx => by simpa using hothers' x hx, hheld, hsuspect⟩
  | some v' =>
    have hpos := ho _ rfl
    have hne : w.entryOf v' ≠ e := by
      intro he
      rw [he, hzero] at hpos
      exact absurd hpos (lt_irrefl 0)
    simp only [u, ColourTable.written_replacing ha, hv, if_neg (Ne.symm hne)]
    obtain ⟨hentry', hsuspect', hheld', hothers''⟩ :=
      ((t.setEntry e { t.entry e with colour := c }).addCount e 1).subCount_spec (w.entryOf v') 1
    rw [hothers' _ hne] at hentry' hsuspect'
    rw [decide_eq_false (by omega), Bool.or_false] at hsuspect'
    refine ⟨(hothers'' e (Ne.symm hne)).trans hentry, fun x hx => ?_, hheld'.trans hheld, hsuspect'.trans hsuspect⟩
    by_cases hxv : w.entryOf v' = x
    · subst hxv
      simp [hentry']
    · rw [hothers'' x (Ne.symm hxv), hothers' x hx, if_neg (by simpa using hxv), Nat.sub_zero]

/-- The lookup of a colour that no candidate holds, where an entry is FREE (R80, R81). -/
theorem ColourTable.lookup_lowestFree {t : ColourTable} {w : Window} {c : Colour} {e : EntryId} (ha : w.adaptive = true)
    (hn : ∀ x, w.inRange x = true → (t.entry x).isFree = false → (t.entry x).colour ≠ c) (he : w.inRange e = true)
    (hf : (t.entry e).isFree = true) (hlow : ∀ x, x < e → w.inRange x = true → (t.entry x).isFree = false) :
    t.lookup w c = .allocate e := by
  refine ColourTable.lookup_allocate ((t.exact_eq_none w c).mpr fun x hx => ?_) ha ?_
  · rw [ColourTable.candidate, if_pos ha] at hx
    exact hn x hx.1 hx.2
  · rw [find?_ascending w.range_ascending]
    exact ⟨(w.mem_range e).mpr he, hf, fun x hx hlt => hlow x hlt ((w.mem_range x).mp hx)⟩

/-- Settles O9: an entry is allocated and announced, and the write goes on as any slot write. -/
theorem pixelWriteAllocates : Obligations.PixelWriteAllocates := by
  intro s c h b l ln e w old new age hb ht ha hn he hf hlow hroom ho
  obtain ⟨hln, hg, hlw, hlg⟩ := State.targets_line ht
  have hchoose : s.choose b = .allocate e := by
    rw [State.choose_allocate (Window.encode_indexed (Window.adaptive_format ha) b.word)
      (ColourTable.lookup_lowestFree ha hn he hf hlow), if_pos]
    rw [State.canAllocate_iff]
    exact hroom.imp_right fun h => h.2
  let m := s.mirror.allocated e (pixelColour b.word)
  let s' : State :=
    { s with colour := s.colour.setEntry e { s.entry e with colour := pixelColour b.word }, mirror := m }
  obtain ⟨⟨hdrain, hfull, hflush, hstay, hother⟩, hcolour, hwin, hwins, hscan, hhost⟩ :=
    State.placed_spec (s := s') (w.indexOf e) hb.1 hln hg hlw
  obtain ⟨hslots, hmark, hwindow, hgroup, hstate⟩ := State.placed_line (s := s') (w.indexOf e) hb.1 hln hg hlw
  obtain ⟨hentry, hentries, hheld, hsuspect⟩ := ColourTable.allocated_written (t := s.colour) (pixelColour b.word) ha
    (Window.entryOf_indexOf (Window.adaptive_fmt ha) he) hf ho
  have hm : (s'.placed b l (w.indexOf e)).mirror = m := by simp [State.placed, s']
  have hcolour' : (s'.placed b l (w.indexOf e)).colour =
      (s.colour.setEntry e { s.colour.entry e with colour := pixelColour b.word }).written w (w.indexOf e) ln.slots[b.slot] := hcolour
  refine ⟨s'.placed b l (w.indexOf e), ?_, ?_, fun x hx => ?_, fun hd => ?_, fun hd => ?_, ?_⟩
  · rw [exec_attempt hb ht, State.store, hchoose]
    simp only [State.allocateEntry_eq]
    rfl
  · rw [State.entry, hcolour', hentry]
  · rw [State.entry, hcolour', hentries x hx]
    rfl
  · rw [hm]
    exact if_pos hd
  · rw [hm]
    exact if_neg hd
  · rw [hm]
    refine ⟨hmark, hslots, hwindow.trans hlw, hgroup.trans hlg, hstate, hdrain, hfull, hflush, hstay, hother, hhost, hwin, hwins, hscan,
      ?_, ?_, ?_⟩
    · rw [hcolour', hheld]
    · rw [hcolour', hsuspect]
    · simp [State.placed, s']

/-! ### Waits (R47, R51, R52, R59, R82, R84) -/

theorem State.holdBeat_held {s : State} {h : Handling} (b : HeldBeat) (hh : s.host.handling = some h) :
    s.holdBeat b = s.withBeatHeld h b := State.mapHandling_some _ hh

theorem State.store_space {s : State} {b : HeldBeat} {h : Handling} (l : LineId) (hh : s.host.handling = some h)
    (hc : s.choose b = .space) : s.store b l = s.withBeatHeld h { b with wait := .space } := by
  rw [State.store, hc]
  exact State.holdBeat_held _ hh

/-- An eviction takes the head of the age list (R52). -/
theorem State.evict_head {s : State} {k : LineId} {ks : List LineId} (hs : s.gatherLaw) (ha : s.gather.age = k :: ks) :
    s.evict =
      { s with
        gather :=
          { s.gather with
            lines := s.gather.lines.set k ((s.line k).inFlush (s.win (s.line k).window) .evict)
            age := ks
            order := s.gather.order ++ [k] } } := by
  obtain ⟨hnodup, -, hmem⟩ := hs
  have hg : (s.line k).state = .gathering := (hmem k).1.mp (by rw [ha]; exact List.mem_cons_self)
  rw [ha, List.nodup_cons] at hnodup
  have hks : (k :: ks).filter (· != k) = ks := by
    rw [List.filter_cons_of_neg (by simp), List.filter_eq_self]
    exact fun x hx => by
      simp only [bne_iff_ne]
      rintro rfl
      exact hnodup.1 hx
  simp only [State.evict, ha, List.head?_cons]
  rw [State.startFlush_gathering _ _ _ hg, ha, hks]

/-- The wait set of a claim is that of the lines before it (R55). -/
theorem State.mem_waitSet_claim {s : State} {p : Line → Bool} {c : FlushCause} (hs : s.gatherLaw)
    (hp : ∀ ln w, p (ln.inFlush w c) = p ln) (k : LineId) :
    k ∈ (s.claim p c).waitSet p ↔ (s.line k).state ≠ .free ∧ p (s.line k) = true := by
  simp only [State.waitSet, allLines, List.mem_filter, List.mem_finRange, true_and, Bool.and_eq_true, bne_iff_ne, ne_eq,
    s.claim_free p c hs k]
  refine and_congr_right fun _ => ?_
  rw [(s.claim_spec p c hs).1 k]
  split
  · rw [hp]
  · rfl

/-- Settles O10: what an attempt that cannot be finished waits for. -/
theorem pixelWriteWaits : Obligations.PixelWriteWaits := by
  refine ⟨fun s b => ⟨fun l hw => ?_, fun hw => ?_, fun hw => ?_, fun set hw => ?_⟩, ?attempts⟩
  · simp only [State.retryReady, hw, beq_iff_eq]
  · rw [← not_iff_not, not_exists, ← State.freeLineId_eq_none]
    simp [State.retryReady, hw]
  · simp only [State.retryReady, hw, Bool.or_eq_true, beq_iff_eq]
  · simp only [State.retryReady, hw, List.isEmpty_iff]
  case attempts =>
    intro s c h b hb hs w
    have hexec : exec c s = .next (s.attemptCore b).dropReserve.settle := State.attemptsBeat_exec hb
    refine ⟨fun l hl hf => ?line, fun hl hf hage => ?anyLine, fun k ks hl hf hage => ?evict,
      fun l ln ht hn => ⟨fun e he hlink hfull => ?space, fun he hretry => ?claim⟩⟩
    case line =>
      have hcore : s.attemptCore b = s.holdBeat { b with wait := .line l } := by simp [State.attemptCore, hl, hf]
      rw [hexec, hcore, State.holdBeat_held _ hb.1]
    case anyLine =>
      have hcore : s.attemptCore b = s.holdBeat { b with wait := .anyLine } := by simp [State.attemptCore, hl, hf, State.evict, hage]
      rw [hexec, hcore, State.holdBeat_held _ hb.1]
    case evict =>
      have hcore : s.attemptCore b = s.evict.holdBeat { b with wait := .anyLine } := by simp [State.attemptCore, hl, hf]
      rw [hexec, hcore, State.evict_head hs hage, State.holdBeat_held _ (by exact hb.1)]
      rfl
    case space =>
      have hno : ¬s.canAllocate = true := by
        rw [State.canAllocate_iff, Mirror.level]
        rintro (hd | ⟨hheld, hroom⟩)
        · exact hlink hd
        · rcases hfull with hne | ⟨hr, hq⟩
          · exact hne hheld
          · simp only [hr, Bool.false_eq_true, if_false, false_or] at hroom
            omega
      have hchoose : s.choose b = .space := by rw [State.choose_allocate hn he, if_neg hno]
      rw [exec_attempt hb ht, State.store_space l hb.1 hchoose]
    case claim =>
      intro p
      obtain ⟨hline, hage, horder, -, hwindows⟩ := s.claim_spec (s.exhaustNames b.window) .exhaust hs
      have hchoose : s.choose b = .claim := by rw [State.choose_exhausted hn he, if_neg (by simp [hretry])]
      refine ⟨s.exhaustClaim b, (s.claim (s.exhaustNames b.window) .exhaust).waitSet (s.exhaustNames b.window), ?_, ?_,
        State.mem_waitSet_claim hs fun _ _ => rfl, fun k hg hp => ?_, fun k hk => ?_, hage, horder, ?_⟩
      · rw [exec_attempt hb ht, State.store, hchoose]
      · have hh : (s.claim (s.exhaustNames b.window) .exhaust).host.handling = some h := by simp [hb.1]
        simp [State.exhaustClaim, State.holdBeat_held _ hh, State.withBeatHeld]
      · exact (hline k).trans (if_pos ⟨hg, hp⟩)
      · exact (hline k).trans (if_neg hk)
      · simp [State.exhaustClaim]

end Sys2Proof.Machine
end

section
/-! PROOF. Host ingress: translated reads, and the cutting of passthrough runs into pieces. -/

namespace Sys2Proof.Machine

/-! ### Translated reads (R69, R70, R152) -/

theorem State.forwarded_found {s : State} {w : WindowId} {g : Nat} {l : LineId} (h : s.findLine w g = some l) (i : SlotId) :
    s.forwarded w g i = (s.line l).slots[i] := by rw [State.forwarded, h]

theorem State.forwarded_none {s : State} {w : WindowId} {g : Nat} (h : s.findLine w g = none) (i : SlotId) :
    s.forwarded w g i = none := by rw [State.forwarded, h]

theorem State.beatAddr_head {s : State} {r : HostRequest} (h : s.host.queue.head? = some r) (i : Nat) :
    s.beatAddr i = requestBeatAddr r i := by rw [State.beatAddr, State.headRequest, h]

/-- A translated read beat looks for a line, then for a read of its group. -/
theorem State.handleBeat_read {s : State} {h : Handling} {r : HostRequest} {w : WindowId}
    (hw : s.windowAt (requestBeatAddr r h.next) = some w) (ha : (s.win w).state = .armed) (hr : requestIsRead r = true) :
    s.handleBeat h r h.next = s.readBeat h w h.next := by
  simp only [State.handleBeat, State.classify_armed hw ha, hr, if_true]

section
variable {s : State} {h : Handling} {r : HostRequest} {w : WindowId} (hq : s.host.queue.head? = some r)
include hq

theorem State.readBeat_forwarded {v : Stored}
    (hf : s.forwarded w ((s.win w).groupOf (requestBeatAddr r h.next)) ((s.win w).slotOf (requestBeatAddr r h.next)) = some v) :
    s.readBeat h w h.next = s.endBeat h.next (.done ((s.win w).decode s.colour v)) := by
  simp only [State.readBeat, State.beatAddr_head hq, hf]

theorem State.readBeat_fetched
    (hf : s.forwarded w ((s.win w).groupOf (requestBeatAddr r h.next)) ((s.win w).slotOf (requestBeatAddr r h.next)) = none) :
    s.readBeat h w h.next = s.groupRead h w ((s.win w).groupOf (requestBeatAddr r h.next)) h.next := by
  simp only [State.readBeat, State.beatAddr_head hq, hf]

end

theorem Handling.readOf_none {h : Handling} {w : WindowId} {g : Nat} (hn : ∀ q ∈ h.reads, ¬(q.window = w ∧ q.group = g)) :
    h.readOf w g = none := by
  simpa [Handling.readOf] using hn

/-- The first read of the group serves its beats. -/
theorem Handling.readOf_first {h : Handling} {w : WindowId} {g : Nat} {q : GroupRead} {a z : List GroupRead}
    (hr : h.reads = a ++ q :: z) (ha : ∀ x ∈ a, ¬(x.window = w ∧ x.group = g)) (hw : q.window = w) (hg : q.group = g) :
    h.readOf w g = some q := by
  rw [Handling.readOf, hr, List.find?_eq_some_iff_append]
  exact ⟨by simp [hw, hg], a, z, rfl, fun x hx => by simpa [imp_iff_not_or] using ha x hx⟩

/-- A group that no read brings is read (R70). -/
theorem State.groupRead_new {s : State} {h : Handling} {w : WindowId} {g : Nat} (hh : s.host.handling = some h)
    (hn : h.readOf w g = none) :
    s.groupRead h w g h.next =
      { s with
        host :=
          { s.host with
            handling := some
              { h with
                results := h.results.set h.next (.awaiting h.next)
                activity := .reading h.next
                reads := h.reads ++ [{ id := h.next, window := w, group := g, status := .presented }] } } } := by
  simp only [State.groupRead, hn]
  rw [State.mapHandling_some _ hh]
  simp only [Handling.setResults_single, mapIdx_single]
  rfl

/-- Settles O13: a read beat is answered by a line, by the read of its group, or by a new read. -/
theorem translatedReads : Obligations.TranslatedReads := by
  refine ⟨fun s w g i => ⟨fun l hl => State.forwarded_found hl i, fun hn => State.forwarded_none hn i⟩, ?beats⟩
  intro s h r w hr hw ha hread g i
  obtain ⟨hh, hq, -⟩ := id hr
  have hexec : exec .beatHandle s = .next (s.readBeat h w h.next).settle := by
    rw [exec_beatHandle hr, State.handleBeat_read hw ha hread]
  refine ⟨fun v hv => ?line, fun hf hn => ?new, fun a q z hf hreads hfirst hqw hqg => ?served⟩
  case line => rw [hexec, State.readBeat_forwarded hq hv, State.endBeat_next _ hh]
  case new => rw [hexec, State.readBeat_fetched hq hf, State.groupRead_new hh (Handling.readOf_none hn)]
  case served =>
    have hserve : exec .beatHandle s = .next (s.groupRead h w g h.next).settle := by rw [hexec, State.readBeat_fetched hq hf]
    have hof : h.readOf w g = some q := Handling.readOf_first hreads hfirst hqw hqg
    refine ⟨fun hst => ?_, fun d hst => ?_, fun hst => ?_⟩
    · rw [hserve, ← State.endBeat_next _ hh]
      rcases hst with hst | hst <;> simp only [State.groupRead, hof, hst]
    · rw [hserve, ← State.endBeat_next _ hh]
      simp only [State.groupRead, hof, hst, State.decodeBeat, State.beatAddr_head hq]
      rfl
    · rw [hserve, ← State.endBeat_next _ hh]
      simp only [State.groupRead, hof, hst]

/-! ### The beats of a run (R153) -/

theorem State.classify_passthrough (s : State) (a : Nat) : s.classify a = .passthrough ↔ s.windowAt a = none := by
  cases h : s.windowAt a with
  | none => simp [State.classify, h]
  | some w =>
    simp only [State.classify, h, reduceCtorEq, iff_false]
    split <;> simp

/-- A run goes up to the first beat that is not passthrough. -/
theorem State.runLast_spec {s : State} {r : HostRequest} (n : Nat) {i : Nat} (hi : i < requestLength r) (hn : requestLength r ≤ n + i)
    (hw : s.windowAt (requestBeatAddr r i) = none) :
    i ≤ s.runLast r n i ∧ s.runLast r n i < requestLength r ∧
      (∀ j, i ≤ j → j ≤ s.runLast r n i → s.windowAt (requestBeatAddr r j) = none) ∧
      (s.runLast r n i + 1 < requestLength r → s.windowAt (requestBeatAddr r (s.runLast r n i + 1)) ≠ none) := by
  induction n generalizing i with
  | zero => omega
  | succ n ih =>
    rw [State.runLast]
    split
    · next hc =>
      rw [State.classify_passthrough] at hc
      obtain ⟨hle, hlt, hall, hend⟩ := ih hc.1 (by omega) hc.2
      refine ⟨by omega, hlt, fun j hij hj => ?_, hend⟩
      rcases Nat.eq_or_lt_of_le hij with rfl | hij
      · exact hw
      · exact hall j hij hj
    · next hc =>
      rw [State.classify_passthrough] at hc
      refine ⟨le_refl i, hi, fun j hij hj => ?_, fun hlt hnone => hc ⟨hlt, hnone⟩⟩
      rw [Nat.le_antisymm hj hij]
      exact hw

/-! ### The pieces of a run (R153) -/

theorem cutPieces_over {r : HostRequest} {last i : Nat} (n : Nat) (h : last < i) : cutPieces r last n i = [] := by
  cases n with
  | zero => rfl
  | succ n => rw [cutPieces, if_neg (Nat.not_le.mpr h)]

theorem cutPieces_next {r : HostRequest} {last i : Nat} (n : Nat) (h : i ≤ last) :
    cutPieces r last (n + 1) i =
      { first := i, last := pieceLast r i last, req := pieceRequest r i (pieceLast r i last) } ::
        cutPieces r last n (pieceLast r i last + 1) := by
  rw [cutPieces, if_pos h]

/-- Where a run's first beat and its last lie in one block, it is one piece. -/
theorem cutPieces_one {r : HostRequest} {last i : Nat} (n : Nat) (ha : (requestAddr r).toNat % 4 = 0) (h : i ≤ last)
    (hb : requestBeatAddr r i / 64 = requestBeatAddr r last / 64) :
    cutPieces r last (n + 1) i = [{ first := i, last := last, req := pieceRequest r i last }] := by
  have hl : pieceLast r i last = last := by
    simp only [pieceLast, requestBeatAddr] at hb ⊢
    omega
  rw [cutPieces_next n h, hl, cutPieces_over n (Nat.lt_succ_self last)]

section
variable {r : HostRequest} {i j : Nat} (hb : requestBeatAddr r i / 64 = requestBeatAddr r j / 64)
include hb

theorem pieceRequest_fields :
    (pieceRequest r i j).write = !requestIsRead r ∧ (pieceRequest r i j).addr = BitVec.ofNat 32 (requestBeatAddr r i / 8 * 8) ∧
      (pieceRequest r i j).words = requestBeatAddr r j / 8 + 1 - requestBeatAddr r i / 8 ∧
      requestBeatAddr r j / 8 + 1 - requestBeatAddr r i / 8 ≤ 8 := by
  have hw : requestBeatAddr r i / 8 * 8 / 8 = requestBeatAddr r i / 8 := by omega
  unfold pieceRequest
  dsimp only
  refine ⟨?_, ?_, ?_, by omega⟩ <;> cases requestIsRead r <;> simp only [hw] <;> rfl

/-- Each byte of a write piece, with its mask. -/
theorem pieceRequest_byte (hr : requestIsRead r = false) {n : Nat} (hn : n < 8 * (pieceRequest r i j).words) :
    blockByte (pieceRequest r i j).data n = (pieceByte r i j (requestBeatAddr r i / 8 * 8) n).1 ∧
      (pieceRequest r i j).mask.getLsbD n = (pieceByte r i j (requestBeatAddr r i / 8 * 8) n).2 := by
  obtain ⟨-, -, hwords, h8⟩ := pieceRequest_fields hb
  rw [hwords] at hn
  have hw : requestBeatAddr r i / 8 * 8 / 8 = requestBeatAddr r i / 8 := by omega
  unfold pieceRequest
  dsimp only
  simp only [hr, Bool.false_eq_true, if_false, hw]
  refine ⟨blockByte_blockOf _ _ n hn (by omega), ?_⟩
  rw [maskOf_getLsbD _ _ n (by omega), decide_eq_true hn, Bool.true_and]

end

/-- A byte within a beat of the piece is the beat's. -/
theorem pieceByte_within {r : HostRequest} {i j base n m k : Nat} (him : i ≤ m) (hmj : m ≤ j) (hk : k < 4)
    (ha : base + n = requestBeatAddr r m + k) :
    pieceByte r i j base n = ((requestBeat r m).data.extractLsb' (8 * k) 8, (requestBeat r m).strobes.getLsbD k) := by
  simp only [requestBeatAddr] at ha
  have hin : requestBeatAddr r i ≤ base + n ∧ base + n < requestBeatAddr r j + 4 := by simp only [requestBeatAddr]; omega
  have hk' : (base + n - requestBeatAddr r i) % 4 = k := by simp only [requestBeatAddr]; omega
  have hm : i + (base + n - requestBeatAddr r i) / 4 = m := by simp only [requestBeatAddr]; omega
  simp only [pieceByte, if_pos hin, hk', hm]

theorem pieceByte_outside {r : HostRequest} {i j base n : Nat}
    (h : base + n < requestBeatAddr r i ∨ requestBeatAddr r j + 4 ≤ base + n) : pieceByte r i j base n = (0, false) := by
  rw [pieceByte, if_neg]
  omega

/-- Settles O15: the beats of a run, its pieces, and the request of a piece. -/
theorem runPieces : Obligations.RunPieces := by
  refine ⟨fun s r i hi hw => State.runLast_spec _ hi (Nat.le_add_right ..) hw, ?run, ?piece⟩
  case run =>
    intro r first last wait a run hle hlast hlen ha
    obtain ⟨n, hn⟩ : ∃ n, requestLength r = n + 1 := ⟨requestLength r - 1, by omega⟩
    have hpieces : run.pieces = cutPieces r last (n + 1) first := by rw [← hn]; rfl
    refine ⟨rfl, rfl, rfl, rfl, rfl, rfl, rfl, fun hb => ?_, fun hb => ?_⟩
    · rw [hpieces]
      exact cutPieces_one n ha hle hb
    · obtain ⟨k, hk⟩ : ∃ k, n = k + 1 := ⟨n - 1, by
        have : first ≠ last := by rintro rfl; exact hb rfl
        omega⟩
      have hm : pieceLast r first last = first + (63 - requestBeatAddr r first % 64) / 4 ∧ pieceLast r first last < last ∧
          a (pieceLast r first last) / 64 = a first / 64 ∧ a (pieceLast r first last + 1) / 64 = a last / 64 := by
        simp only [a, pieceLast, requestBeatAddr] at hb ⊢
        omega
      refine ⟨pieceLast r first last, ?_, hm.2.1, hm.2.2.1, hm.2.2.2, ?_⟩
      · omega
      · rw [hpieces, cutPieces_next n hle, hk, cutPieces_one k ha (by omega) hm.2.2.2]
  case piece =>
    intro r i j a q hij hb
    obtain ⟨hwrite, haddr, hwords, -⟩ := pieceRequest_fields hb
    refine ⟨hwrite, haddr, hwords, fun hr n hn => ?_⟩
    obtain ⟨hdata, hmask⟩ := pieceRequest_byte hb hr hn
    refine ⟨fun m k him hmj hk hadd => ?_, fun hout => ?_⟩
    · rw [hdata, hmask, pieceByte_within (base := requestBeatAddr r i / 8 * 8) him hmj hk hadd]
      exact ⟨rfl, rfl⟩
    · rw [hmask, pieceByte_outside (base := requestBeatAddr r i / 8 * 8) hout]

end Sys2Proof.Machine
end

section
/-! PROOF. Passthrough runs, and how an action is committed. -/

namespace Sys2Proof.Machine

/-! ### Ranges (R26) -/

theorem overlaps_iff (lo hi lo' hi' : Nat) : overlaps lo hi lo' hi' = true ↔ meet lo hi lo' hi' := by
  rw [overlaps, decide_eq_true_eq]
  exact ⟨fun h => ⟨max lo lo', by omega⟩, fun ⟨a, h⟩ => by omega⟩

theorem State.guarded_iff (s : State) (lo hi : Nat) :
    s.guarded lo hi = true ↔
      ∃ v, (s.win v).state ≠ .off ∧ (s.win v).adaptive = true ∧ meet lo hi (s.win v).memLo (s.win v).memHi := by
  simp only [State.guarded, allWindows, List.any_eq_true, List.mem_finRange, true_and, Bool.and_eq_true, overlaps_iff, Window.inUse,
    bne_iff_ne, and_assoc]

theorem State.meetsOther_iff (s : State) (w : WindowId) :
    s.meetsOther w = true ↔
      ∃ v, v ≠ w ∧ (s.win v).state ≠ .off ∧
        (meet (s.win w).hostLo (s.win w).hostHi (s.win v).hostLo (s.win v).hostHi ∨
          meet (s.win w).memLo (s.win w).memHi (s.win v).memLo (s.win v).memHi) := by
  simp only [State.meetsOther, allWindows, List.any_eq_true, List.mem_finRange, true_and, Bool.and_eq_true, Bool.or_eq_true,
    overlaps_iff, Window.inUse, bne_iff_ne, and_assoc]

/-! ### The commit of an action (R167, R168) -/

/-- The transaction of an action row, before its operand is judged. -/
def State.opened (s : State) : State := (s.setSdo (some actionSdo)).setTxn (.data actionStream)

/-- What the verdict on an action makes of the state. -/
def State.answer (s : State) (code : Byte) : Verdict → State
  | .refuse r => s.withRefusedAction code r
  | .accept t => t.noteAction .accepted none code

@[simp] theorem State.answer_refuse (s : State) (code : Byte) (r : Reason) :
    s.answer code (.refuse r) = s.withRefusedAction code r := rfl

@[simp] theorem State.answer_accept (s : State) (code : Byte) (t : State) :
    s.answer code (.accept t) = t.noteAction .accepted none code := rfl

theorem State.actionCommand_judged {s : State} {code v : Byte} (hv : s.port.txn ≠ .void) :
    s.actionCommand code v = s.answer code (s.opened.judge code v) := by
  rw [State.actionCommand, if_neg hv, State.commitAction]
  change (match s.opened.judge code v with | .refuse r => _ | .accept t => _) = _
  cases s.opened.judge code v <;> rfl

/-- An action that its own rule judges. -/
theorem State.judge_own {s : State} {code v : Byte} (hr : s.port.action.running = none) (h0 : code ≠ 0) (h10 : code.toNat ≤ 10)
    (hv : code.toNat ≤ 3 → v.toNat ≤ 7) : s.judge code v = s.ownRule code v := by
  rw [State.judge, if_neg (by simp [hr]), if_neg (by rintro (h | h); exact h0 h; omega),
    if_neg fun h => absurd (hv h.1) (Nat.not_le.mpr h.2)]

theorem operandWindow_ofNat (w : WindowId) : operandWindow (BitVec.ofNat 8 w.val) = w := by
  apply Fin.ext
  simp only [operandWindow, Fin.ofNat, BitVec.toNat_ofNat]
  omega

theorem State.actionCommand_own {s : State} {code v : Byte} (h : s.takesActions) (h0 : code ≠ 0) (h10 : code.toNat ≤ 10)
    (hv : code.toNat ≤ 3 → v.toNat ≤ 7) : s.actionCommand code v = s.answer code (s.opened.ownRule code v) := by
  rw [State.actionCommand_judged h.1, State.judge_own (s := s.opened) h.2 h0 h10 hv]

theorem windowOperand_le (w : WindowId) : (BitVec.ofNat 8 w.val).toNat ≤ 7 := by
  rw [BitVec.toNat_ofNat]
  omega

section
variable {s : State} (h : s.takesActions) (w : WindowId) (v : Byte)
include h

/-! Each action row is the verdict of its own rule. -/

theorem exec_arm : exec (.arm (BitVec.ofNat 8 w.val)) s = .next (s.answer 1 (s.opened.judgeArm w)).settle := by
  have hrule : s.opened.ownRule 1 (BitVec.ofNat 8 w.val) = s.opened.judgeArm w := congrArg s.opened.judgeArm (operandWindow_ofNat w)
  rw [← hrule, ← State.actionCommand_own h (by decide) (by decide) fun _ => windowOperand_le w]
  rfl

theorem exec_disarm : exec (.disarm (BitVec.ofNat 8 w.val)) s = .next (s.answer 2 (s.opened.judgeDisarm w)).settle := by
  have hrule : s.opened.ownRule 2 (BitVec.ofNat 8 w.val) = s.opened.judgeDisarm w := congrArg s.opened.judgeDisarm (operandWindow_ofNat w)
  rw [← hrule, ← State.actionCommand_own h (by decide) (by decide) fun _ => windowOperand_le w]
  rfl

theorem exec_scan : exec (.scan (BitVec.ofNat 8 w.val)) s = .next (s.answer 3 (s.opened.judgeScan w)).settle := by
  have hrule : s.opened.ownRule 3 (BitVec.ofNat 8 w.val) = s.opened.judgeScan w := congrArg s.opened.judgeScan (operandWindow_ofNat w)
  rw [← hrule, ← State.actionCommand_own h (by decide) (by decide) fun _ => windowOperand_le w]
  rfl

/-- The rows whose operand is not a window number. -/
theorem State.actionCommand_free {code : Byte} (h4 : 3 < code.toNat) (h10 : code.toNat ≤ 10) :
    s.actionCommand code v = s.answer code (s.opened.ownRule code v) :=
  State.actionCommand_own h (by rintro rfl; exact absurd h4 (by decide)) h10 fun hle => absurd hle (Nat.not_le.mpr h4)

theorem exec_flushAll : exec (.flushAll v) s = .next (s.answer 4 s.opened.judgeFlushAll).settle := by
  rw [show s.opened.judgeFlushAll = s.opened.ownRule 4 v from rfl, ← State.actionCommand_free h v (by decide) (by decide)]
  rfl

theorem exec_mirrorAttach : exec (.mirrorAttach v) s = .next (s.answer 5 s.opened.judgeAttach).settle := by
  rw [show s.opened.judgeAttach = s.opened.ownRule 5 v from rfl, ← State.actionCommand_free h v (by decide) (by decide)]
  rfl

theorem exec_mirrorDetach : exec (.mirrorDetach v) s = .next (s.answer 6 s.opened.judgeDetach).settle := by
  rw [show s.opened.judgeDetach = s.opened.ownRule 6 v from rfl, ← State.actionCommand_free h v (by decide) (by decide)]
  rfl

theorem exec_recount : exec (.recount v) s = .next (s.answer 7 s.opened.judgeRecount).settle := by
  rw [show s.opened.judgeRecount = s.opened.ownRule 7 v from rfl, ← State.actionCommand_free h v (by decide) (by decide)]
  rfl

theorem exec_faultPop : exec (.faultPop v) s = .next (s.answer 8 s.opened.judgeFaultPop).settle := by
  rw [show s.opened.judgeFaultPop = s.opened.ownRule 8 v from rfl, ← State.actionCommand_free h v (by decide) (by decide)]
  rfl

theorem exec_resultPop : exec (.resultPop v) s = .next (s.answer 9 s.opened.judgeResultPop).settle := by
  rw [show s.opened.judgeResultPop = s.opened.ownRule 9 v from rfl, ← State.actionCommand_free h v (by decide) (by decide)]
  rfl

theorem exec_softReset : exec (.softReset v) s = .next (s.answer 10 s.opened.judgeSoftReset).settle := by
  rw [show s.opened.judgeSoftReset = s.opened.ownRule 10 v from rfl, ← State.actionCommand_free h v (by decide) (by decide)]
  rfl

end

/-! ### The rule of ARM (R26) -/

section
variable {s : State} {w : WindowId}

theorem State.judgeArm_busy (h : (s.win w).state ≠ .off) : s.judgeArm w = .refuse .busy := by
  rw [State.judgeArm, if_pos (by simpa [Window.inUse] using h)]

section
variable (hoff : (s.win w).state = .off)
include hoff

theorem State.judgeArm_off : s.judgeArm w =
    if !(s.win w).valid then .refuse .invalid
    else if s.meetsOther w then .refuse .overlap
    else if !(s.win w).adaptive then .accept (s.armPlain w)
    else if s.engine ≠ .idle then .refuse .engineBusy
    else .accept (s.armAdaptive w) := by
  rw [State.judgeArm, if_neg (by simp [Window.inUse, hoff])]

theorem State.judgeArm_invalid (hv : (s.win w).valid = false) : s.judgeArm w = .refuse .invalid := by
  rw [State.judgeArm_off hoff, if_pos (by simp [hv])]

variable (hv : (s.win w).valid = true)
include hv

theorem State.judgeArm_overlap (hm : s.meetsOther w = true) : s.judgeArm w = .refuse .overlap := by
  rw [State.judgeArm_off hoff, if_neg (by simp [hv]), if_pos hm]

variable (hm : s.meetsOther w = false)
include hm

theorem State.judgeArm_plain (ha : (s.win w).adaptive = false) : s.judgeArm w = .accept (s.armPlain w) := by
  rw [State.judgeArm_off hoff, if_neg (by simp [hv]), if_neg (by simp [hm]), if_pos (by simp [ha])]

theorem State.judgeArm_engineBusy (ha : (s.win w).adaptive = true) (he : s.engine ≠ .idle) : s.judgeArm w = .refuse .engineBusy := by
  rw [State.judgeArm_off hoff, if_neg (by simp [hv]), if_neg (by simp [hm]), if_neg (by simp [ha]), if_pos he]

theorem State.judgeArm_adaptive (ha : (s.win w).adaptive = true) (he : s.engine = .idle) :
    s.judgeArm w = .accept (s.armAdaptive w) := by
  rw [State.judgeArm_off hoff, if_neg (by simp [hv]), if_neg (by simp [hm]), if_neg (by simp [ha]), if_neg (by simp [he])]

end

end

/-! ### Passthrough runs (R56, R153 to R155) -/

theorem Handling.forget_eq (h : Handling) (w : WindowId) : h.forget w = { h with reads := h.reads.filter (fun x => x.window ≠ w) } := by
  rw [Handling.forget]
  congr 1
  refine List.filter_congr fun x _ => ?_
  by_cases hx : x.window = w <;> simp [hx]

section
variable {h : Handling} {q : Run} {lo hi : Nat} (ha : h.activity = .running q)
include ha

theorem Handling.armGuard_met {x : Piece} {xs : List Piece} (hm : q.write = true ∧ meet q.lo q.hi lo hi) (hp : q.pieces = x :: xs) :
    h.armGuard lo hi = (h.setResults x.first q.last (.fault .guard)).goOn (q.last + 1) := by
  rw [← overlaps_iff] at hm
  simp only [Handling.armGuard, ha, hm, Bool.and_self, if_true, hp]

theorem Handling.armGuard_apart (hm : ¬(q.write = true ∧ meet q.lo q.hi lo hi)) : h.armGuard lo hi = h := by
  rw [← overlaps_iff, ← Bool.and_eq_true] at hm
  simp only [Handling.armGuard, ha]
  exact if_neg hm

end

theorem State.lineOverlaps_iff (s : State) (lo hi : Nat) (l : LineId) :
    s.lineOverlaps lo hi (s.line l) = true ↔
      meet lo hi ((s.win (s.line l).window).groupAddr (s.line l).group)
        ((s.win (s.line l).window).groupAddr (s.line l).group + (s.win (s.line l).window).fmt.bytes) :=
  overlaps_iff ..

/-- Settles O14: how a passthrough run is formed, when it presents, and what an ARM withdraws of it. -/
theorem passthroughRuns : Obligations.PassthroughRuns := by
  intro s h r
  refine ⟨?form, fun q hh hact hw hp => ?present, ?arm⟩
  case form =>
    intro hr hnone hs last lo hi guard p
    obtain ⟨hh, -⟩ := id hr
    have hexec : exec .beatHandle s = .next (s.passBeat r h.next).settle := by
      rw [exec_beatHandle hr, State.handleBeat, (s.classify_passthrough _).mpr hnone]
    have hguard : (!requestIsRead r && s.guarded lo hi) = true ↔ guard := by
      rw [Bool.and_eq_true, State.guarded_iff, Bool.not_eq_true']
    refine ⟨fun hg => ?_, fun hg => ?_⟩
    · rw [hexec, State.passBeat, if_pos (hguard.mpr hg), State.mapHandling_some _ hh]
      rfl
    · obtain ⟨hline, hage, horder, -, hwindows⟩ := s.claim_spec (s.lineOverlaps lo hi) .overlap hs
      let t := s.claim (s.lineOverlaps lo hi) .overlap
      have hpass : s.passBeat r h.next = t.mapHandling fun x =>
          { x with activity := .running (formRun r h.next last (t.waitSet (s.lineOverlaps lo hi))) } := by
        rw [State.passBeat, if_neg fun hc => hg (hguard.mp hc)]
      have hhost : t.host = s.host := by simp [t]
      refine ⟨s.passBeat r h.next, t.waitSet (s.lineOverlaps lo hi), hexec, ?_, fun l => ?_, fun l hl hp => ?_, fun l hl => ?_,
        fun l => ?_, ⟨s.gather.age.filter fun l => s.lineOverlaps lo hi (s.line l), ?_, List.filter_sublist, fun l => ?_⟩, ?_⟩
      · rw [hpass, State.mapHandling_some _ (hhost ▸ hh), hhost]
      · rw [State.mem_waitSet_claim hs fun _ _ => rfl, State.lineOverlaps_iff]
      · rw [hpass]
        exact (hline l).trans (if_pos ⟨hl, (s.lineOverlaps_iff lo hi l).mpr hp⟩)
      · rw [hpass]
        exact (hline l).trans (if_neg fun hc => hl ⟨hc.1, (s.lineOverlaps_iff lo hi l).mp hc.2⟩)
      · rw [hpass, State.mapHandling]
        change l ∈ t.gather.age ↔ _
        rw [show t.gather.age = _ from hage, List.mem_filter, Bool.not_eq_true', ← Bool.not_eq_true, State.lineOverlaps_iff]
      · rw [hpass]
        exact horder
      · rw [List.mem_filter, State.lineOverlaps_iff]
      · simp [hpass, t]
  case present =>
    refine eventOutcome_some (e := s.runIssueEvent) ?_
    simp only [State.runIssueEvent, hh, hact, hw, hp, List.isEmpty_nil, Bool.not_false, Bool.and_self, if_true]
    rw [State.mapHandling_some _ hh]
  case arm =>
    intro w q ht hoff hv hm ha he hh hact met
    have hexec := exec_arm ht w
    rw [State.judgeArm_adaptive (s := s.opened) hoff hv hm ha he, State.answer_accept] at hexec
    have hhost : ((s.opened.armAdaptive w).noteAction .accepted none 1).host.handling =
        some ((h.forget w).armGuard (s.win w).memLo (s.win w).memHi) := by
      change Option.map _ s.host.handling = _
      rw [hh]
      rfl
    refine ⟨_, hexec, fun x xs hmet hx => ?_, fun hmet => ?_⟩
    · rw [hhost, Handling.armGuard_met (h := h.forget w) hact hmet hx, Handling.forget_eq]
      rfl
    · rw [hhost, Handling.armGuard_apart (h := h.forget w) hact hmet, Handling.forget_eq]

end Sys2Proof.Machine
end

section
/-! PROOF. The memory link: what each block presents, and what the issue arbiter grants. -/

namespace Sys2Proof.Machine

/-! ### Requests presented (R30, R37, R62, R63, R66, R120, R140, R152) -/

/-- A group fills whole memory words. -/
theorem Fmt.bytes_words (f : Fmt) : 8 * (f.bytes / 8) = f.bytes := by cases f <;> rfl

theorem Fmt.bytes_le (f : Fmt) : f.bytes ≤ 24 := by cases f <;> decide

/-- The bytes of group data in a block. -/
theorem blockByte_setWidth (d : GroupData) {j : Nat} (hj : j < 24) : blockByte (d.setWidth 512) j = d.extractLsb' (8 * j) 8 := by
  apply BitVec.eq_of_getLsbD_eq
  intro i hi
  rw [blockByte, BitVec.getLsbD_extractLsb', BitVec.getLsbD_extractLsb', BitVec.getLsbD_setWidth,
    decide_eq_true (show 8 * j + i < 512 by omega), Bool.true_and]

section
variable {s : State} {l : LineId}

theorem State.lineRequest_read (hf : (s.line l).state = .flushing) (hi : (s.line l).issued = false)
    (hp : (s.line l).phase = some .readWait) :
    s.lineRequest l =
      some ({ write := false, addr := BitVec.ofNat 32 ((s.win (s.line l).window).groupAddr (s.line l).group)
              words := (s.win (s.line l).window).fmt.bytes / 8, data := 0, mask := 0 }, .flushRead l) := by
  simp only [State.lineRequest, hf, hi, hp, beq_self_eq_true, Bool.not_false, Bool.and_self, if_true]

theorem State.lineRequest_write (hf : (s.line l).state = .flushing) (hi : (s.line l).issued = false)
    (hp : (s.line l).phase = some .writeWait) :
    s.lineRequest l =
      some ({ write := true, addr := BitVec.ofNat 32 ((s.win (s.line l).window).groupAddr (s.line l).group)
              words := (s.win (s.line l).window).fmt.bytes / 8
              data := ((s.line l).merged (s.win (s.line l).window)).setWidth 512
              mask := fullMask (s.win (s.line l).window).fmt.bytes }, .flushWrite l) := by
  simp only [State.lineRequest, hf, hi, hp, beq_self_eq_true, Bool.not_false, Bool.and_self, if_true]

theorem State.lineRequest_none
    (h : (s.line l).state ≠ .flushing ∨ (s.line l).issued = true ∨
      (s.line l).phase ≠ some .readWait ∧ (s.line l).phase ≠ some .writeWait) : s.lineRequest l = none := by
  rw [State.lineRequest]
  by_cases hc : (s.line l).state = .flushing ∧ (s.line l).issued = false
  · have hp : (s.line l).phase ≠ some .readWait ∧ (s.line l).phase ≠ some .writeWait := by simpa [hc.1, hc.2] using h
    rw [if_pos (by simp [hc])]
    split
    · next hr => exact absurd hr hp.1
    · next hw => exact absurd hw hp.2
    · rfl
  · exact if_neg (by simpa using hc)

theorem State.flushRequest_present (h : s.gather.present = some l) : s.flushRequest = s.lineRequest l := by
  rw [State.flushRequest, h]

theorem State.flushRequest_none (h : s.gather.present = none) : s.flushRequest = none := by
  rw [State.flushRequest, h]

/-- The flush engine presents the first line of the flush order that has a request (R62). -/
theorem State.presentEvent_first {a z : List LineId} (hn : s.gather.present = none) (ho : s.gather.order = a ++ l :: z)
    (ha : ∀ k ∈ a, s.lineRequest k = none) (hl : s.lineRequest l ≠ none) :
    s.presentEvent = some { s with gather := { s.gather with present := some l } } := by
  have hfind : s.gather.order.find? (fun l => (s.lineRequest l).isSome) = some l := by
    rw [List.find?_eq_some_iff_append]
    exact ⟨Option.isSome_iff_ne_none.mpr hl, a, z, ho, fun k hk => by simp [ha k hk]⟩
  simp only [State.presentEvent, hn, Option.isSome_none, Bool.false_eq_true, if_false, hfind]

end

section
variable {s : State} {h : Handling} (hh : s.host.handling = some h)
include hh

theorem State.hostRequest_reading {id : Nat} {r : GroupRead} {a z : List GroupRead} (ha : h.activity = .reading id)
    (hr : h.reads = a ++ r :: z) (hn : ∀ x ∈ a, x.id ≠ id) (hid : r.id = id) :
    s.hostRequest =
      some ({ write := false, addr := BitVec.ofNat 32 ((s.win r.window).groupAddr r.group)
              words := (s.win r.window).fmt.bytes / 8, data := 0, mask := 0 }, .hostGroup id) := by
  have hfind : h.reads.find? (fun r => r.id == id) = some r := by
    rw [List.find?_eq_some_iff_append]
    exact ⟨by simp [hid], a, z, hr, fun x hx => by simpa using hn x hx⟩
  simp only [State.hostRequest, hh, ha, hfind]

theorem State.hostRequest_running {r : Run} {p : Piece} {rest : List Piece} (ha : h.activity = .running r)
    (hp : r.presenting = true) (hr : r.pieces = p :: rest) :
    s.hostRequest = some (p.req, if r.write then .posted else .hostPiece p.first) := by
  simp only [State.hostRequest, hh, ha, hp, if_true, hr]

theorem State.hostRequest_waiting {r : Run} (ha : h.activity = .running r) (hp : r.presenting = false) : s.hostRequest = none := by
  simp only [State.hostRequest, hh, ha, hp, Bool.false_eq_true, if_false]

theorem State.hostRequest_idle {b : HeldBeat} (ha : h.activity = .ready ∨ h.activity = .placing b) : s.hostRequest = none := by
  rcases ha with ha | ha <;> simp only [State.hostRequest, hh, ha]

end

theorem blockLength_le (w : Window) (next : Nat) : blockLength w next ≤ 64 := Nat.min_le_left ..

theorem Window.fillByte_eq (w : Window) :
    w.fillByte = if w.format = 4 then BitVec.ofNat 8 (17 * (w.fillEntry.toNat % 16)) else w.fillEntry := by
  rw [Window.fillByte]
  split
  · next h => rw [if_pos (w.fmt_i4.mp h)]
  · next h => rw [if_neg fun hf => h (w.fmt_i4.mpr hf)]

section
variable {s : State} {f : Fill} (he : s.engine = .filling f)
include he

theorem State.engineRequest_filling (hp : f.phase = .writing) (hf : f.failed = none) (ha : f.aborted = false)
    (hn : f.next < (s.win f.window).memHi) :
    s.engineRequest =
      some ({ write := true, addr := BitVec.ofNat 32 f.next, words := blockLength (s.win f.window) f.next / 8
              data := blockOf (blockLength (s.win f.window) f.next) (fun _ => (s.win f.window).fillByte)
              mask := fullMask (blockLength (s.win f.window) f.next) }, .fill) := by
  simp only [State.engineRequest, he, hp, hf, ha, hn, beq_self_eq_true, Option.isNone_none, Bool.not_false, decide_true,
    Bool.and_self, if_true]

theorem State.engineRequest_filled
    (h : f.phase ≠ .writing ∨ f.failed ≠ none ∨ f.aborted = true ∨ (s.win f.window).memHi ≤ f.next) : s.engineRequest = none := by
  simp only [State.engineRequest, he]
  refine if_neg ?_
  simp only [Bool.and_eq_true, beq_iff_eq, Option.isNone_iff_eq_none, Bool.not_eq_true', decide_eq_true_eq]
  rintro ⟨⟨⟨hp, hf⟩, ha⟩, hn⟩
  rcases h with h | h | h | h
  · exact h hp
  · exact h hf
  · rw [ha] at h; cases h
  · omega

end

section
variable {s : State} {r : Release} (he : s.engine = .releasing r)
include he

theorem State.engineRequest_releasing (hr : r.reading = true) (hf : r.failed = none) (hn : r.next < (s.win r.window).memHi) :
    s.engineRequest =
      some ({ write := false, addr := BitVec.ofNat 32 r.next, words := blockLength (s.win r.window) r.next / 8, data := 0
              mask := 0 }, .release) := by
  simp only [State.engineRequest, he, hr, hf, hn, Option.isNone_none, decide_true, Bool.and_self, if_true]

theorem State.engineRequest_released (h : r.reading = false ∨ r.failed ≠ none ∨ (s.win r.window).memHi ≤ r.next) :
    s.engineRequest = none := by
  simp only [State.engineRequest, he]
  refine if_neg ?_
  simp only [Bool.and_eq_true, Option.isNone_iff_eq_none, decide_eq_true_eq]
  rintro ⟨⟨hr, hf⟩, hn⟩
  rcases h with h | h | h
  · rw [hr] at h; cases h
  · exact h hf
  · omega

end

theorem State.engineRequest_idle {s : State} (he : s.engine = .idle) : s.engineRequest = none := by
  simp only [State.engineRequest, he]

theorem State.scanRequest_reading {s : State} (hs : s.scan.state = .reading) (hn : s.scan.next < (s.win s.scan.window).memHi) :
    s.scanRequest =
      some ({ write := false, addr := BitVec.ofNat 32 s.scan.next, words := blockLength (s.win s.scan.window) s.scan.next / 8
              data := 0, mask := 0 }, .scan) := by
  simp only [State.scanRequest, hs, hn, beq_self_eq_true, decide_true, Bool.and_self, if_true]

theorem State.scanRequest_none {s : State} (h : s.scan.state ≠ .reading ∨ (s.win s.scan.window).memHi ≤ s.scan.next) :
    s.scanRequest = none := by
  refine if_neg ?_
  simp only [Bool.and_eq_true, beq_iff_eq, decide_eq_true_eq]
  rintro ⟨hs, hn⟩
  rcases h with h | h
  · exact h hs
  · omega

/-- Settles O16: what each block presents to the issue arbiter. -/
theorem requestContents : Obligations.RequestContents := by
  refine ⟨fun s l => ?line, fun s h hh => ?host, fun s w next => ?walks⟩
  case line =>
    intro ln w asks
    refine ⟨fun hf hi hp => ⟨_, State.lineRequest_read hf hi hp, rfl, rfl, w.fmt.bytes_words⟩,
      fun hf hi hp => ⟨_, State.lineRequest_write hf hi hp, rfl, ⟨rfl, w.fmt.bytes_words⟩, fun j hj => ?_⟩,
      State.lineRequest_none, State.flushRequest_present, State.flushRequest_none, fun a z => State.presentEvent_first⟩
    have hle := w.fmt.bytes_le
    exact ⟨blockByte_setWidth _ (by omega), by rw [fullMask_getLsbD _ _ (by omega), decide_eq_true hj]⟩
  case host =>
    exact ⟨fun id a r z ha hr hn hid => ⟨_, State.hostRequest_reading hh ha hr hn hid, rfl, rfl, Fmt.bytes_words _⟩,
      fun r p rest => State.hostRequest_running hh, fun r => State.hostRequest_waiting hh, fun b => State.hostRequest_idle hh⟩
  case walks =>
    intro n
    refine ⟨?fill, ?release, State.engineRequest_idle, ?scan⟩
    case fill =>
      rintro f he rfl rfl
      refine ⟨fun hp hf ha hn => ⟨_, State.engineRequest_filling he hp hf ha hn, rfl, rfl, rfl, fun j hj => ?_, fun j hj => ?_⟩,
        State.engineRequest_filled he⟩
      · exact (blockByte_blockOf _ _ j hj (blockLength_le ..)).trans (Window.fillByte_eq _)
      · exact (fullMask_getLsbD _ _ (lt_of_lt_of_le hj (blockLength_le ..))).trans (decide_eq_true hj)
    case release =>
      rintro r he rfl rfl
      exact ⟨fun hr hf hn => ⟨_, State.engineRequest_releasing he hr hf hn, rfl, rfl, rfl⟩, State.engineRequest_released he⟩
    case scan =>
      rintro rfl rfl
      exact ⟨fun hs hn => ⟨_, State.scanRequest_reading hs hn, rfl, rfl, rfl⟩, State.scanRequest_none⟩

/-! ### The grant (R122, R125, R126) -/

/-- The requesters behind which host ingress stands. -/
def Requester.isHost : Requester → Bool
  | .hostGroup _ | .hostPiece _ | .posted => true
  | _ => false

theorem State.firstPresented_eq {s : State} {q : MemRequest} {b : Requester}
    (h : s.flushRequest = some (q, b) ∨
      s.flushRequest = none ∧ (s.hostRequest = some (q, b) ∨
        s.hostRequest = none ∧ (s.engineRequest = some (q, b) ∨
          s.engineRequest = none ∧ s.scanRequest = some (q, b)))) : s.firstPresented = some (q, b) := by
  rcases h with h | ⟨hf, h | ⟨hh, h | ⟨he, h⟩⟩⟩
  · simp [State.firstPresented, h]
  · simp [State.firstPresented, hf, h]
  · simp [State.firstPresented, hf, hh, h]
  · simp [State.firstPresented, hf, hh, he, h]

theorem State.markIssued_flush {s : State} {b : Requester} {l : LineId} (h : b = .flushRead l ∨ b = .flushWrite l) :
    s.markIssued b =
      { s with
        gather := { s.gather with present := none, lines := s.gather.lines.set l { s.line l with issued := true } } } := by
  rcases h with rfl | rfl <;> rfl

theorem State.markIssued_host (s : State) {b : Requester} (h : b.isHost = true) : s.markIssued b = s.mapHandling Handling.issued := by
  cases b with
  | hostGroup id | hostPiece id | posted => rfl
  | _ => cases h

theorem State.engineIssued_fields' (s : State) : s.engineIssued = { s with engine := s.engineIssued.engine } := by
  unfold State.engineIssued
  split <;> rfl

/-- What the issue of a request leaves as it is. -/
theorem State.markIssued_kept (s : State) (b : Requester) :
    ((∀ l, b ≠ .flushRead l ∧ b ≠ .flushWrite l) → (s.markIssued b).gather = s.gather) ∧
      (b.isHost = false → (s.markIssued b).host = s.host) ∧
      (b ≠ .fill → b ≠ .release → (s.markIssued b).engine = s.engine) ∧ (b ≠ .scan → (s.markIssued b).scan = s.scan) := by
  have hengine : s.engineIssued.gather = s.gather ∧ s.engineIssued.host = s.host ∧ s.engineIssued.scan = s.scan := by
    rw [State.engineIssued_fields']
    exact ⟨rfl, rfl, rfl⟩
  obtain ⟨hgather, hhost, hscan⟩ := hengine
  cases b with
  | flushRead l | flushWrite l => exact ⟨fun h => (by simp at h), fun _ => rfl, fun _ _ => rfl, fun _ => rfl⟩
  | hostGroup id | hostPiece id | posted =>
    exact ⟨fun _ => rfl, fun h => absurd h (by simp [Requester.isHost]), fun _ _ => rfl, fun _ => rfl⟩
  | fill | release => exact ⟨fun _ => hgather, fun _ => hhost, fun h h' => (by simp at h h'), fun _ => hscan⟩
  | scan => exact ⟨fun _ => rfl, fun _ => rfl, fun _ _ => rfl, fun h => absurd rfl h⟩

/-- The run after its first piece, done or not. -/
theorem Handling.dropPiece_eq (h : Handling) {r : Run} {p : Piece} {rest : List Piece} (hr : r.pieces = p :: rest) :
    h.dropPiece r =
      { h with
        activity := if rest = [] then .ready else .running { r with pieces := rest }
        next := if rest = [] then r.last + 1 else h.next } := by
  cases rest <;> simp only [Handling.dropPiece, hr, Handling.goOn, if_true, reduceCtorEq, if_false]

theorem Handling.issued_reading {h : Handling} {id : Nat} (ha : h.activity = .reading id) :
    h.issued = (h.setRead id .outstanding).goOn (id + 1) := by
  simp only [Handling.issued, ha]

theorem Handling.issued_running {h : Handling} {r : Run} {p : Piece} {rest : List Piece} (ha : h.activity = .running r)
    (hr : r.pieces = p :: rest) :
    h.issued = (h.setResults p.first p.last (if r.write then .done 0 else .awaiting p.first)).dropPiece r := by
  simp only [Handling.issued, ha, hr, Handling.pieceIssued]

/-- Settles O17: the first presenting block has its request granted, and learns of it. -/
theorem issueGrantJoins : Obligations.IssueGrantJoins := by
  intro s q b hrun hroom hfirst
  have hgrant : s.grantEvent = some ((s.markIssued b).joinOutstanding q b) := by
    rw [State.grantEvent, if_pos ⟨hrun, hroom⟩, State.firstPresented_eq hfirst, Option.map_some]
  obtain ⟨hgather, hhost, hengine, hscan⟩ := s.markIssued_kept b
  refine ⟨(s.markIssued b).joinOutstanding q b, eventOutcome_some hgrant, ?_, fun l hl => ?_, fun hn => ?_, fun h id hh ha hb => ?_,
    fun h r p rest hh ha hr hb => ?_, fun hn hp => ?_, fun f he hb => ?_, fun r he hb => ?_, fun hf hr => ?_, fun hb => ?_,
    fun hb => ?_, by simp⟩
  · simp [State.joinOutstanding]
  · rw [State.joinOutstanding, State.markIssued_flush hl]
  · rw [State.joinOutstanding, hgather hn]
  · rw [State.joinOutstanding, hb, s.markIssued_host rfl, State.mapHandling_some _ hh, Handling.issued_reading ha]
    rfl
  · have hb' : b.isHost = true := by rcases hb with rfl | rfl <;> rfl
    rw [State.joinOutstanding, s.markIssued_host hb', State.mapHandling_some _ hh, Handling.issued_running ha hr,
      Handling.dropPiece_eq _ hr]
    rfl
  · refine (State.joinOutstanding_fields ..).1.trans (hhost ?_)
    cases b with
    | hostGroup id => exact absurd rfl (hn id).1
    | hostPiece id => exact absurd rfl (hn id).2
    | posted => exact absurd rfl hp
    | _ => rfl
  · rw [State.joinOutstanding, hb, State.markIssued, State.engineIssued, he]
    rfl
  · rw [State.joinOutstanding, hb, State.markIssued, State.engineIssued, he]
    rfl
  · rw [State.joinOutstanding, hengine hf hr]
  · rw [State.joinOutstanding, hb]
    rfl
  · rw [State.joinOutstanding, hscan hb]

end Sys2Proof.Machine
end

section
/-! PROOF. Responses of the memory link: what an OK and an ERROR do at each requester. -/

namespace Sys2Proof.Machine

/-! ### A line that has become FREE (R42, R55, R66) -/

theorem leave_eq (l : LineId) (set : List LineId) : leave l set = set.filter (· ≠ l) := filter_bne set l

theorem Activity.leaveWait_eq (a : Activity) (l : LineId) : a.leaveWait l = a.without l := by
  cases a with
  | placing b =>
    simp only [Activity.leaveWait, Activity.without, HeldBeat.leaveWait]
    cases b.wait <;> simp only [leave_eq]
  | running r => simp only [Activity.leaveWait, Activity.without, leave_eq]
  | ready | reading id => rfl

theorem GroupRead.current_iff (r : GroupRead) (w : WindowId) (g : Nat) :
    r.current w g = true ↔ r.status = .presented ∨ r.status = .outstanding ∨ ¬(r.window = w ∧ r.group = g) := by
  simp only [GroupRead.current, Bool.or_eq_true, beq_iff_eq, Bool.not_eq_true', ← Bool.not_eq_true, Bool.and_eq_true, or_assoc]

theorem Handling.lineFreed_eq (h : Handling) (l : LineId) (w : WindowId) (g : Nat) :
    h.lineFreed l w g =
      { h with
        activity := h.activity.without l
        reads := h.reads.filter (fun r =>
          r.status = .presented ∨ r.status = .outstanding ∨ ¬(r.window = w ∧ r.group = g)) } := by
  rw [Handling.lineFreed, Activity.leaveWait_eq]
  congr 1
  refine List.filter_congr fun r _ => ?_
  rw [Bool.eq_iff_iff, GroupRead.current_iff, decide_eq_true_eq]

theorem State.freeLine_port (s : State) (l : LineId) :
    (s.freeLine l).port =
      { s.port with action := { s.port.action with running := s.port.action.running.map (Running.leaveWait · l) } } := rfl

theorem State.freeLine_host (s : State) (l : LineId) :
    (s.freeLine l).host =
      { s.host with handling := s.host.handling.map (Handling.lineFreed · l (s.line l).window (s.line l).group) } := rfl

/-- What the freeing of a line does (R42, R55, R66). -/
theorem State.freeLine_left (s : State) (l : LineId) : s.lineLeft (s.freeLine l) l := by
  have hline (k : LineId) : (s.freeLine l).line k = if l = k then Line.blank else s.line k := s.line_freed l k
  refine ⟨by rw [hline, if_pos rfl], fun k hk => by rw [hline, if_neg (Ne.symm hk)], filter_bne .., filter_bne .., rfl, ?_,
    fun set hr => ?_, fun hr => ?_, fun hh => ?_, fun h hh => ?_⟩
  · simp only [State.freeLine, leave_eq]
    rfl
  · rw [State.freeLine_port, hr, ← leave_eq]
    rfl
  · have hmap : s.port.action.running.map (Running.leaveWait · l) = s.port.action.running := by
      cases hc : s.port.action.running with
      | none => rfl
      | some r =>
        cases r with
        | flushAll set => exact absurd hc (hr set)
        | softReset => rfl
    rw [State.freeLine_port, hmap]
  · rw [State.freeLine_host, hh, Option.map_none, ← hh]
  · rw [State.freeLine_host, hh, Option.map_some, Handling.lineFreed_eq]

theorem State.flushFail_eq (s : State) (l : LineId) :
    s.flushFail l =
      State.freeLine
        { s with
          faults := s.faults.append
            { cause := .lostWrite, window := some (s.line l).window
              addr := some (BitVec.ofNat 32 ((s.win (s.line l).window).groupAddr (s.line l).group)), entry := none
              flush := (s.line l).cause }
          colour := if (s.line l).kind = some .counted then s.colour.subCounts (s.slotEntries (s.line l)) else s.colour } l := by
  unfold State.flushFail
  dsimp only
  by_cases h : (s.line l).kind = some .counted
  · rw [if_pos (by simp [h]), if_pos h]
    rfl
  · rw [if_neg (by simp [h]), if_neg h]
    rfl

/-- A flush that fails loses its data (R67, R88). -/
theorem State.flushFail_lost (s : State) (l : LineId) : s.flushLost (s.flushFail l) l := by
  rw [State.flushFail_eq]
  exact ⟨rfl, rfl, State.freeLine_left _ l, rfl, rfl, rfl, rfl, rfl⟩

theorem State.flushFail_link (s : State) (l : LineId) : (s.flushFail l).link = s.link := by
  rw [State.flushFail_eq]
  rfl

theorem State.flushWriteDone_eq (s : State) (l : LineId) :
    s.flushWriteDone l =
      State.freeLine
        { s with
          colour := if (s.line l).kind = some .counted then s.colour.subCounts (s.line l).oldIndices else s.colour } l := by
  unfold State.flushWriteDone
  dsimp only
  by_cases h : (s.line l).kind = some .counted
  · rw [if_pos (by simp [h]), if_pos h]
  · rw [if_neg (by simp [h]), if_neg h]

/-! ### The head of the outstanding list (R122, R133) -/

section
variable {s : State} {o : Outstanding} {rest : List Outstanding} (ho : s.link.outstanding = o :: rest)
include ho

theorem exec_memoryOk (ws : List Word64) (hr : s.inSoftReset = false) :
    exec (.memoryResponse (.ok ws)) s =
      .next (((s.withHeadGone rest).performed o).deliverOk o (s.memory.reply o.req ws)).settle := by
  refine congrArg (Host.Outcome.next ·.settle) (?_ : s.respondMemory (.ok ws) = _)
  rw [State.respondMemory, ho]
  simp only [hr, Bool.false_eq_true, if_false]
  rfl

theorem exec_memoryError (hr : s.inSoftReset = false) :
    exec (.memoryResponse .error) s = .next ((s.withHeadGone rest).deliverError o false).settle := by
  refine congrArg (fun t : State => Host.Outcome.next t.settle) (?_ : s.respondMemory .error = _)
  rw [State.respondMemory, ho]
  simp only [hr, Bool.false_eq_true, if_false]
  rfl

end

theorem State.performed_write {s : State} {o : Outstanding} (h : o.req.write = true) :
    s.performed o = { s with memory := s.memory.perform o.req } := if_pos h

theorem State.performed_read {s : State} {o : Outstanding} (h : o.req.write = false) : s.performed o = s := if_neg (by simp [h])

/-- Settles O18: what the OK of a flush's read and of its write does. -/
theorem flushResponsesOk : Obligations.FlushResponsesOk := by
  intro s q l age rest ws ln w d hr
  refine ⟨fun ho hq => ?_, fun ho hq => ?_⟩
  · rw [exec_memoryOk ho ws hr, State.performed_read hq]
    simp only [State.deliverOk, State.flushReadDone, beq_iff_eq]
    rfl
  · refine ⟨_, exec_memoryOk ho ws hr, ?_⟩
    rw [State.performed_write hq]
    simp only [State.deliverOk, State.flushWriteDone_eq]
    exact ⟨rfl, rfl, State.freeLine_left _ l, rfl, rfl, rfl, rfl, rfl⟩

/-! ### What ERROR does at each requester (Table 6-2) -/

theorem MemRequest.lowestMasked_some {q : MemRequest} {j : Nat} (hj : j < 8 * q.words) (hm : q.mask.getLsbD j = true)
    (hlow : ∀ i < j, q.mask.getLsbD i = false) : q.lowestMasked = some (q.addr + BitVec.ofNat 32 j) := by
  have hfind : (List.range (8 * q.words)).find? (fun j => q.mask.getLsbD j) = some j := by
    rw [List.find?_range_eq_some]
    exact ⟨hm, List.mem_range.mpr hj, fun i hi => by simp [hlow i hi]⟩
  rw [MemRequest.lowestMasked, hfind, Option.map_some]

theorem MemRequest.lowestMasked_none {q : MemRequest} (hm : ∀ j < 8 * q.words, q.mask.getLsbD j = false) :
    q.lowestMasked = none := by
  rw [MemRequest.lowestMasked, Option.map_eq_none_iff, List.find?_eq_none]
  exact fun j hj => by simp [hm j (List.mem_range.mp hj)]

theorem State.postedFail_masked {s : State} {q : MemRequest} {a : Word32} (h : q.lowestMasked = some a) :
    s.postedFail q =
      { s with
        faults := s.faults.append { cause := .postedWriteError, window := none, addr := some a, entry := none, flush := none } } := by
  rw [State.postedFail, h]
  rfl

theorem State.postedFail_unmasked {s : State} {q : MemRequest} (h : q.lowestMasked = none) :
    s.postedFail q =
      { s with
        faults := s.faults.append
          { cause := .postedWriteError, window := none, addr := some (Config.unmaskedAddress s.freeCount), entry := none, flush := none }
        freeCount := s.freeCount + 1 } := by
  rw [State.postedFail, h]
  rfl

/-- Settles O19: the records that the ERROR of a flush and of a posted write leaves. -/
theorem errorResponsesRecorded : Obligations.ErrorResponsesRecorded := by
  intro s o rest ho hr
  refine ⟨fun l hl => ?_, fun j hb hj hm hlow => ?_⟩
  · have hdeliver : (s.withHeadGone rest).deliverError o false = (s.withHeadGone rest).flushFail l := by
      rcases hl with hl | hl <;> rw [State.deliverError, hl]
    refine ⟨(s.withHeadGone rest).flushFail l, by rw [exec_memoryError ho hr, hdeliver], ?_, State.flushFail_link ..⟩
    exact State.flushFail_lost (s.withHeadGone rest) l
  · refine ⟨_, exec_memoryError ho hr, ?_⟩
    rw [State.deliverError, hb]
    simp only [State.postedFail_masked (MemRequest.lowestMasked_some hj hm hlow)]
    exact ⟨rfl, rfl, rfl, rfl, rfl⟩

end Sys2Proof.Machine
end

section
/-! PROOF. Responses of the memory link: the end of the window engine's operation and of a scan, and ERROR at each requester. -/

namespace Sys2Proof.Machine

/-! ### The window engine (R31 to R33, R38, R39, R89) -/

theorem Outstanding.any_isEngine (os : List Outstanding) :
    os.any Outstanding.isEngine = true ↔ ∃ o ∈ os, o.by' = .fill ∨ o.by' = .release := by
  simp only [List.any_eq_true, Outstanding.isEngine, Bool.or_eq_true, beq_iff_eq]

theorem Outstanding.any_isScan (os : List Outstanding) : os.any Outstanding.isScan = true ↔ ∃ o ∈ os, o.by' = .scan := by
  simp only [List.any_eq_true, Outstanding.isScan, beq_iff_eq]

/-- The operation with none of its requests outstanding ends, or goes on (R31 to R33, R38, R39). -/
theorem State.engineFinish_ends (s : State) : s.engineEnds s.engineFinish := by
  refine ⟨fun h => ?_, fun f hw he => ?filling, fun r hw he => ?releasing⟩
  · rcases h with h | h
    · rw [State.engineFinish, if_pos ((Outstanding.any_isEngine _).mpr h)]
    · simp only [State.engineFinish, h, ite_self]
  case filling =>
    have hno : ¬s.link.outstanding.any Outstanding.isEngine = true := fun h => hw ((Outstanding.any_isEngine _).mp h)
    intro w off
    refine ⟨fun a ha => ?_, fun hn ha => ?_, fun hn ha hp hm => ?_, fun hn ha hp => ?_⟩
    · rw [State.engineFinish, if_neg hno]
      simp only [he, ha]
      rfl
    · rw [State.engineFinish, if_neg hno]
      simp only [he, hn, ha, if_true]
      rfl
    · rw [State.engineFinish, if_neg hno]
      simp only [he, hn, ha, hp, Bool.false_eq_true, if_false, beq_self_eq_true, Bool.true_and, decide_eq_true_eq]
      exact if_pos hm
    · rw [State.engineFinish, if_neg hno]
      simp only [he, hn, ha, Bool.false_eq_true, if_false, Bool.and_eq_true, beq_iff_eq, decide_eq_true_eq]
      refine if_neg fun hc => ?_
      rcases hp with hp | hp
      · exact hp hc.1
      · exact absurd hc.2 (Nat.not_le.mpr hp)
  case releasing =>
    have hno : ¬s.link.outstanding.any Outstanding.isEngine = true := fun h => hw ((Outstanding.any_isEngine _).mp h)
    refine ⟨fun a ha => ?_, fun hn hr hp => ?_, fun hn hp => ?_⟩
    · rw [State.engineFinish, if_neg hno]
      simp only [he, ha]
      rfl
    · rw [State.engineFinish, if_neg hno]
      simp only [he, hn, hr, Bool.true_and, decide_eq_true_eq]
      exact if_pos hp
    · rw [State.engineFinish, if_neg hno]
      simp only [he, hn, Bool.and_eq_true, decide_eq_true_eq]
      refine if_neg fun hc => ?_
      rcases hp with hp | hp
      · rw [hc.1] at hp
        cases hp
      · exact absurd hc.2 (Nat.not_le.mpr hp)

theorem State.engineFail_idle {s : State} (a : Word32) (he : s.engine = .idle) : s.engineFail a = s := by
  simp only [State.engineFail, he]

/-- A fill keeps the first address that failed, unless it has been aborted (R32, R33). -/
theorem State.engineFail_filling {s : State} {f : Fill} (a : Word32) (he : s.engine = .filling f) :
    s.engineFail a =
      { s with engine := .filling (if f.failed = none ∧ f.aborted = false then { f with failed := some a } else f) } := by
  simp only [State.engineFail, he, Bool.and_eq_true, Option.isNone_iff_eq_none, Bool.not_eq_true']
  by_cases h : f.failed = none ∧ f.aborted = false
  · rw [if_pos h, if_pos h]
  · rw [if_neg h, if_neg h, ← he]

theorem State.engineFail_releasing {s : State} {r : Release} (a : Word32) (he : s.engine = .releasing r) :
    s.engineFail a = { s with engine := .releasing (if r.failed = none then { r with failed := some a } else r) } := by
  simp only [State.engineFail, he, Option.isNone_iff_eq_none]
  by_cases h : r.failed = none
  · rw [if_pos h, if_pos h]
  · rw [if_neg h, if_neg h, ← he]

/-! ### The scan unit (R143 to R145) -/

theorem ScanUnit.reserved_iff (x : ScanUnit) : x.reserved = true ↔ x.state = .flushing ∨ x.state = .reading := by
  simp only [ScanUnit.reserved, Bool.or_eq_true, beq_iff_eq]

/-- The end of a scan (R143, R144, R145). -/
theorem State.scanEnd_reserved {s : State} (st : ResultStatus) (c : Word32) (h : s.scan.reserved = true) :
    s.scanEnd st c =
      { s with
        windows := s.windows.set s.scan.window { s.win s.scan.window with epoch := (s.win s.scan.window).epoch + 1 }
        scan :=
          { s.scan with
            state := if s.link.outstanding.any Outstanding.isScan then .aborting else .idle
            wait := []
            kept := []
            results := s.scan.results ++
              [{ window := s.scan.window, epoch := (s.win s.scan.window).epoch + 1, crc := c, status := st
                 trigger := s.scan.trigger }] } } := if_pos h

theorem State.scanEnd_lost (s : State) : s.scanLost (s.scanEnd .memError 0) := by
  refine ⟨fun h => ?_, fun h => ⟨_, fun hw => ?_, fun hw => ?_, State.scanEnd_reserved _ _ ((ScanUnit.reserved_iff _).mpr h)⟩⟩
  · rw [State.scanEnd, if_neg]
    rw [ScanUnit.reserved_iff]
    rcases h with h | h <;> simp [h]
  · exact if_pos ((Outstanding.any_isScan _).mpr hw)
  · exact if_neg fun hc => hw ((Outstanding.any_isScan _).mp hc)

theorem State.scanDiscard_waits {s : State} (h : ∃ x ∈ s.link.outstanding, x.by' = .scan) : s.scanDiscard = s :=
  if_pos ((Outstanding.any_isScan _).mpr h)

theorem State.scanDiscard_last {s : State} (h : ¬∃ x ∈ s.link.outstanding, x.by' = .scan) :
    s.scanDiscard = { s with scan := { s.scan with state := .idle } } :=
  if_neg fun hc => h ((Outstanding.any_isScan _).mp hc)

/-! ### ERROR at each requester (Table 6-2) -/

theorem State.mapHandling_none {s : State} (f : Handling → Handling) (hh : s.host.handling = none) : s.mapHandling f = s := by
  rw [State.mapHandling, hh, Option.map_none, ← hh]

/-- Settles O20: what ERROR does at each requester. -/
theorem errorsDelivered : Obligations.ErrorsDelivered := by
  refine ⟨fun s o rest => exec_memoryError, fun s o wait => ?_⟩
  intro u answered posted
  refine ⟨fun l hl => ?flush, fun id hb hh => ?noRequest, fun id h hb hh => ?group, fun id h hb hh => ?piece,
    fun hb => ⟨fun j hj hm hlow => ?masked, fun hm => ?unmasked⟩, fun hb => ?engine,
    fun a => ⟨State.engineFail_idle a, fun f => State.engineFail_filling a, fun r => State.engineFail_releasing a⟩,
    s.engineFinish_ends, fun hb => ⟨fun h => ?_, fun h => ?_, fun h => ⟨fun hw => ?_, fun hw => ?_⟩⟩, s.scanEnd_lost⟩
  case flush =>
    have hu : u = s.flushFail l := by rcases hl with hl | hl <;> simp only [u, State.deliverError, hl]
    rw [hu]
    exact ⟨rfl, s.flushFail_lost l, s.flushFail_link l⟩
  case noRequest =>
    rcases hb with hb | hb <;> simp only [u, State.deliverError, hb]
    · exact State.mapHandling_none _ hh
    · exact State.mapHandling_none _ hh
  case group =>
    simp only [u, State.deliverError, hb]
    exact State.mapHandling_some _ hh
  case piece =>
    simp only [u, State.deliverError, hb]
    exact State.mapHandling_some _ hh
  case masked =>
    simp only [u, State.deliverError, hb]
    exact State.postedFail_masked (MemRequest.lowestMasked_some hj hm hlow)
  case unmasked =>
    simp only [u, State.deliverError, hb]
    exact ⟨_, State.postedFail_unmasked (MemRequest.lowestMasked_none hm)⟩
  case engine => rcases hb with hb | hb <;> simp only [u, State.deliverError, hb]
  · rcases h with h | h <;> simp only [u, State.deliverError, hb, State.scanReply, h]
  · simp only [u, State.deliverError, hb, State.scanReply, h]
  · simp only [u, State.deliverError, hb, State.scanReply, h]
    exact State.scanDiscard_waits hw
  · simp only [u, State.deliverError, hb, State.scanReply, h]
    exact State.scanDiscard_last hw

end Sys2Proof.Machine
end

section
/-! PROOF. Responses to host ingress, to the window engine and to the scan unit, and those that reach no requester. -/

namespace Sys2Proof.Machine

/-! ### Host ingress (R70, R121, R127, R152, R156) -/

theorem State.groupReadDone_served {s : State} {h : Handling} {r : HostRequest} {id : Nat} {g : GroupRead} {a z : List GroupRead}
    (d : Block) (hh : s.host.handling = some h) (hq : s.host.queue.head? = some r) (hr : h.reads = a ++ g :: z)
    (ha : ∀ x ∈ a, x.id ≠ id) (hid : g.id = id) :
    s.groupReadDone id d =
      { s with
        host :=
          { s.host with
            handling := some
              { h with
                results := h.results.mapIdx (fun i x => if x = .awaiting id then
                  .done ((s.win g.window).decode s.colour ((s.win g.window).fmt.getSlot (d.setWidth 192)
                    ((s.win g.window).slotOf (requestBeatAddr r i)))) else x)
                reads := h.reads.map (fun x => if x.id = id then { x with status := .returned (d.setWidth 192) } else x) } } } := by
  have hfind : h.reads.find? (fun r => r.id == id) = some g := by
    rw [List.find?_eq_some_iff_append]
    exact ⟨by simp [hid], a, z, hr, fun x hx => by simpa using ha x hx⟩
  simp only [State.groupReadDone, hh, hfind]
  rw [State.mapHandling_some _ hh]
  simp only [Handling.answer, Handling.setRead, State.decodeBeat, State.beatAddr_head hq]

theorem State.pieceReadDone_served {s : State} {h : Handling} {r : HostRequest} (id : Nat) (q : MemRequest) (d : Block)
    (hh : s.host.handling = some h) (hq : s.host.queue.head? = some r) :
    s.pieceReadDone id q d =
      { s with
        host :=
          { s.host with
            handling := some
              { h with
                results := h.results.mapIdx (fun i x => if x = .awaiting id then
                  .done (blockBeat d (requestBeatAddr r i - q.addr.toNat)) else x) } } } := by
  rw [State.pieceReadDone, State.mapHandling_some _ hh]
  simp only [Handling.answer, State.beatAddr_head hq]

/-- The bytes of a reply: the words given, and memory for the others (R121). -/
theorem Memory.reply_byte (m : Memory) (q : MemRequest) (ws : List Word64) {j : Nat} (hq : q.words ≤ 8) (hj : j < 8 * q.words) :
    blockByte (m.reply q ws) j = (wordsByte ws j).getD (m.byte (q.addr.toNat + j)) :=
  blockByte_blockOf _ _ j hj (by omega)

theorem blockBeat_byte (d : Block) {off k : Nat} (hk : k < 4) :
    (blockBeat d off).extractLsb' (8 * k) 8 = blockByte d (off + k) := by
  apply BitVec.eq_of_getLsbD_eq
  intro i hi
  rw [blockBeat, blockByte, BitVec.getLsbD_extractLsb', BitVec.getLsbD_extractLsb', BitVec.getLsbD_setWidth,
    BitVec.getLsbD_ushiftRight, decide_eq_true (show 8 * k + i < 32 by omega), Bool.true_and,
    show 8 * off + (8 * k + i) = 8 * (off + k) + i by omega]

/-- Settles O21: responses to host ingress, and the bytes of a reply. -/
theorem hostReadsAnswered : Obligations.HostReadsAnswered := by
  refine ⟨?reads, fun s q age rest ws hr ho hq => ?posted, fun m q ws j hq hj => ⟨fun x hx => ?given, fun hx => ?kept⟩,
    fun d off k _ => blockBeat_byte d⟩
  case reads =>
    intro s h r q id age rest hr hq hh hhead d answered next
    refine ⟨fun ho => ⟨fun ws a g z hreads ha hid => ?_, ?_⟩, fun ho => ⟨fun ws => ?_, ?_⟩⟩
    · rw [exec_memoryOk ho ws hr, State.performed_read hq, State.deliverOk]
      exact congrArg (fun t : State => Host.Outcome.next t.settle)
        (State.groupReadDone_served (s := s.withHeadGone rest) _ hh hhead hreads ha hid)
    · rw [exec_memoryError ho hr, State.deliverError]
      exact congrArg (fun t : State => Host.Outcome.next t.settle) (State.mapHandling_some (s := s.withHeadGone rest) _ hh)
    · rw [exec_memoryOk ho ws hr, State.performed_read hq, State.deliverOk]
      exact congrArg (fun t : State => Host.Outcome.next t.settle)
        (State.pieceReadDone_served (s := s.withHeadGone rest) id q _ hh hhead)
    · rw [exec_memoryError ho hr, State.deliverError]
      exact congrArg (fun t : State => Host.Outcome.next t.settle) (State.mapHandling_some (s := s.withHeadGone rest) _ hh)
  case posted =>
    rw [exec_memoryOk ho ws hr, State.performed_write hq, State.deliverOk]
    rfl
  case given => simp only [m.reply_byte q ws hq hj, wordsByte, hx, Option.getD_some]
  case kept => simp only [m.reply_byte q ws hq hj, wordsByte, hx, Option.getD_none]

/-! ### Responses that reach no requester (R131, R133) -/

/-- Settles O23: a response with none outstanding, and one in a soft reset. -/
theorem responsesDiscarded : Obligations.ResponsesDiscarded := by
  intro s r
  refine ⟨fun ho => ?_, fun o rest ho hr => ?_⟩
  · refine congrArg (fun t : State => Host.Outcome.next t.settle) (?_ : s.respondMemory r = _)
    rw [State.respondMemory, ho]
    rfl
  · refine congrArg (fun t : State => Host.Outcome.next t.settle) (?_ : s.respondMemory r = _)
    rw [State.respondMemory, ho]
    cases r with
    | ok ws =>
      simp only [hr, if_true, ne_eq, reduceCtorEq, not_false_eq_true, and_true]
      cases hw : o.req.write with
      | true => simp only [State.performed_write hw, if_true]; rfl
      | false => simp only [State.performed_read hw, Bool.false_eq_true, if_false]; rfl
    | error => simp only [hr, if_true, ne_eq, not_true_eq_false, and_false, if_false]; rfl

/-! ### The scan unit (R140, R141, R143 to R145) -/

theorem crcByte_eq (crc : Word32) (b : Byte) :
    crcByte crc b =
      (fun c : Word32 => if c.getLsbD 0 then (c >>> 1) ^^^ 0xEDB88320 else c >>> 1)^[8] (crc ^^^ b.setWidth 32) := by
  rw [crcByte, List.foldl_const, List.length_range]
  rfl

section
variable {s : State} {q : MemRequest} {d : Block}

/-- The state once a read's pixels have been fed to the CRC (R140, R141). -/
def State.scanFed (s : State) (q : MemRequest) (d : Block) : State :=
  let w := s.win s.scan.window
  let fed := w.fmt.pixelsOf (s.scan.kept ++ blockBytes d (8 * q.words))
  { s with
    scan := { s.scan with crc := fed.1.foldl (fun c p => crcPixel c (w.decode s.colour p)) s.scan.crc, kept := fed.2 } }

theorem State.scanFeed_last (hm : (s.win s.scan.window).memHi ≤ s.scan.next)
    (hw : ¬∃ o ∈ s.link.outstanding, o.by' = .scan) :
    s.scanFeed q d =
      (s.scanFed q d).scanEnd (if s.scan.disturbed then .disturbed else .clean) (~~~(s.scanFed q d).scan.crc) := by
  rw [← Outstanding.any_isScan] at hw
  exact if_pos (by simp [hm, hw])

theorem State.scanFeed_more (h : s.scan.next < (s.win s.scan.window).memHi ∨ ∃ o ∈ s.link.outstanding, o.by' = .scan) :
    s.scanFeed q d = s.scanFed q d := by
  rw [← Outstanding.any_isScan] at h
  exact if_neg (by simpa [imp_iff_not_or] using h)

end

/-- Settles O24: what the response of a scan's read does. -/
theorem scanReadsAnswered : Obligations.ScanReadsAnswered := by
  refine ⟨fun crc p => ?_, ?_⟩
  · simp only [crcPixel, crcByte_eq]
  intro s q age rest r ho hq hr w waits ended
  let t := s.withHeadGone rest
  have hlost (st : ScanState) (hs : s.scan.state = .reading) (hst : (if rest.any Outstanding.isScan then .aborting else .idle) = st)
      (hexec : exec (.memoryResponse r) s = .next (t.scanEnd .memError 0).settle) : ∃ u, ended st 0 .memError u := by
    refine ⟨_, hexec, ?_⟩
    rw [State.scanEnd_reserved (s := t) _ _ ((ScanUnit.reserved_iff _).mpr (.inr hs))]
    exact ⟨hst, rfl, rfl, rfl, rfl, rfl, rfl, rfl, rfl, rfl, rfl, rfl, rfl⟩
  refine ⟨fun ws hs hok => ?fed, fun hs herr => ?lost, fun hs => ?aborted⟩
  case fed =>
    intro fed crc
    have hexec : exec (.memoryResponse r) s = .next (t.scanFeed q (s.memory.reply q ws)).settle := by
      rw [hok, exec_memoryOk ho ws hr, State.performed_read hq]
      simp only [State.deliverOk, State.scanReply]
      rw [show (s.withHeadGone rest).scan.state = _ from hs]
    refine ⟨fun hm hw => ?_, fun h => ?_⟩
    · rw [State.scanFeed_last (s := t) hm hw] at hexec
      refine ⟨_, hexec, ?_⟩
      rw [State.scanEnd_reserved (s := t.scanFed q _) _ _ ((ScanUnit.reserved_iff _).mpr (.inr hs))]
      exact ⟨if_neg fun hc => hw ((Outstanding.any_isScan _).mp hc), rfl, rfl, rfl, rfl, rfl, rfl, rfl, rfl, rfl, rfl, rfl, rfl⟩
    · rw [hexec, State.scanFeed_more (s := t) h]
      rfl
  case lost =>
    have hexec : exec (.memoryResponse r) s = .next (t.scanEnd .memError 0).settle := by
      rw [herr, exec_memoryError ho hr]
      simp only [State.deliverError, State.scanReply]
      rw [show (s.withHeadGone rest).scan.state = _ from hs]
    exact ⟨fun hw => hlost _ hs (if_pos ((Outstanding.any_isScan _).mpr hw)) hexec,
      fun hw => hlost _ hs (if_neg fun hc => hw ((Outstanding.any_isScan _).mp hc)) hexec⟩
  case aborted =>
    have hexec : exec (.memoryResponse r) s = .next t.scanDiscard.settle := by
      cases r with
      | ok ws =>
        rw [exec_memoryOk ho ws hr, State.performed_read hq]
        simp only [State.deliverOk, State.scanReply]
        rw [show (s.withHeadGone rest).scan.state = _ from hs]
      | error =>
        rw [exec_memoryError ho hr]
        simp only [State.deliverError, State.scanReply]
        rw [show (s.withHeadGone rest).scan.state = _ from hs]
    exact ⟨fun hw => by rw [hexec, State.scanDiscard_waits (s := t) hw],
      fun hw => by rw [hexec, State.scanDiscard_last (s := t) hw]; rfl⟩

end Sys2Proof.Machine
end

section
/-! PROOF. Responses to the window engine, and the memory timeout. -/

namespace Sys2Proof.Machine

/-! ### Responses to a fill (R31 to R33, R89) -/

/-- What becomes of a fill, with or without a failure noted, once a response has come. -/
theorem State.fill_ends {t : State} {f g : Fill} (hg : g = f ∨ ∃ a, g = { f with failed := some a }) (he : t.engine = .filling g) :
    let w := t.win f.window
    let waits : Prop := ∃ o ∈ t.link.outstanding, o.by' = .fill ∨ o.by' = .release
    let off : State :=
      { t with
        engine := .idle
        colour := t.colour.subCount w.fillEntryId w.pixels.toNat
        windows := t.windows.set f.window { w with state := .off } }
    (waits → t.engineFinish = t) ∧
    (∀ a, ¬waits → g.failed = some a → t.engineFinish =
      { off with
        faults := t.faults.append
          { cause := .fillFailed, window := some f.window, addr := some a, entry := some w.fillEntryId, flush := none } }) ∧
    (¬waits → g.failed = none → f.aborted = true → t.engineFinish = off) ∧
    (¬waits → g.failed = none → f.aborted = false → f.phase = .writing → w.memHi ≤ f.next → t.engineFinish =
      { t with engine := .idle, windows := t.windows.set f.window { w with state := .armed } }) ∧
    (¬waits → g.failed = none → f.aborted = false → (f.phase ≠ .writing ∨ f.next < w.memHi) → t.engineFinish = t) := by
  intro w waits off
  obtain ⟨hwait, hfill, -⟩ := t.engineFinish_ends
  refine ⟨fun hw => hwait (.inl hw), fun a hw hf => ?_, fun hw hf ha => ?_, fun hw hf ha hp hn => ?_, fun hw hf ha hp => ?_⟩
  all_goals obtain ⟨hfailed, haborted, hdone, hmore⟩ := hfill g hw he
  · rcases hg with rfl | ⟨a', rfl⟩
    · exact hfailed a hf
    · exact hfailed a hf
  · rcases hg with rfl | ⟨a', rfl⟩
    · exact haborted hf ha
    · cases hf
  · rcases hg with rfl | ⟨a', rfl⟩
    · exact hdone hf ha hp hn
    · cases hf
  · rcases hg with rfl | ⟨a', rfl⟩
    · exact hmore hf ha hp
    · cases hf

/-! ### The entries of a release read (R37, R90) -/

theorem pixelsOf_i8 (w : Window) (bs : List Byte) :
    (Fmt.pixelsOf .i8 bs).1.map w.entryOf = bs.map (fun b => Fin.ofNat 256 b.toNat) := by
  induction bs with
  | nil => rfl
  | cons b bs ih =>
    rw [Fmt.pixelsOf]
    simp only [List.map_cons, ih]
    rfl

theorem pixelsOf_i4 (w : Window) (bs : List Byte) :
    (Fmt.pixelsOf .i4 bs).1.map w.entryOf =
      bs.flatMap (fun b =>
        [Fin.ofNat 256 (16 * w.partition.toNat + b.toNat % 16), Fin.ofNat 256 (16 * w.partition.toNat + b.toNat / 16)]) := by
  induction bs with
  | nil => rfl
  | cons b bs ih =>
    have hlow : (b.extractLsb' 0 4).toNat = b.toNat % 16 := by simp [BitVec.extractLsb'_toNat]
    have hhigh : (b.extractLsb' 4 4).toNat = b.toNat / 16 := by
      rw [BitVec.extractLsb'_toNat, Nat.shiftRight_eq_div_pow]
      omega
    rw [Fmt.pixelsOf]
    simp only [List.map_cons, ih, List.flatMap_cons, Window.entryOf, hlow, hhigh, List.cons_append, List.nil_append]

/-- Settles O22: what a response does to the window engine's operation, and the entries that a release read covers. -/
theorem engineResponses : Obligations.EngineResponses := by
  refine ⟨?fill, ?release, fun w bs => ⟨fun hf => ?_, fun hf => ?_⟩⟩
  case fill =>
    intro s f q age rest r w g on off waits cmd hr he hq ho
    have hg : g = f ∨ ∃ a, g = { f with failed := some a } := by
      by_cases hc : r = .error ∧ f.failed = none ∧ f.aborted = false
      · exact .inr ⟨q.addr, if_pos hc⟩
      · exact .inl (if_neg hc)
    have hcmd : cmd = .next on.engineFinish.settle := by
      cases r with
      | ok ws =>
        have hon : on = { s.withHeadGone rest with memory := s.memory.perform q } := by
          simp only [on, g, reduceCtorEq, false_and, if_false, ← he]
          rfl
        rw [show cmd = _ from exec_memoryOk ho ws hr, State.performed_write hq, State.deliverOk, hon]
        rfl
      | error =>
        simp only [cmd, exec_memoryError ho hr, State.deliverError, Bool.false_eq_true, if_false]
        rw [State.engineFail_filling (s := s.withHeadGone rest) q.addr he]
        simp only [on, g, true_and, if_true]
        rfl
    obtain ⟨hwait, hfailed, haborted, hdone, hmore⟩ := State.fill_ends (t := on) hg rfl
    exact ⟨fun hw => by rw [hcmd, hwait hw], fun a hw hf => by rw [hcmd, hfailed a hw hf]; rfl,
      fun hw hf ha => by rw [hcmd, haborted hw hf ha]; rfl, fun hw hf ha hp hn => by rw [hcmd, hdone hw hf ha hp hn]; rfl,
      fun hw hf ha hp => by rw [hcmd, hmore hw hf ha hp]⟩
  case release =>
    intro s e q age rest r w waits cmd hr he hq ho
    refine ⟨fun ws hok hf => ?read, fun a ha => ?fail⟩
    case read =>
      intro on
      have hcmd : cmd = .next on.engineFinish.settle := by
        simp only [cmd, hok]
        rw [exec_memoryOk ho ws hr, State.performed_read hq, State.deliverOk, State.releaseReadDone,
          show (s.withHeadGone rest).engine = _ from he]
        dsimp only
        rw [if_neg (show ¬e.failed.isSome = true by simp [hf])]
        rfl
      obtain ⟨hwait, -, hrelease⟩ := on.engineFinish_ends
      refine ⟨fun h => ?_, fun hw hrd hm => ?_⟩
      · rw [hcmd]
        by_cases hw : waits
        · rw [hwait (.inl hw)]
        · rw [(hrelease _ hw rfl).2.2 hf (h.resolve_left hw)]
      · rw [hcmd, (hrelease _ hw rfl).2.1 hf hrd hm]
        rfl
    case fail =>
      let t : State := { s.withHeadGone rest with engine := .releasing { e with failed := some a } }
      have hcmd : cmd = .next t.engineFinish.settle := by
        rcases ha with hfailed | ⟨herr, hf, rfl⟩
        · have hsame : t = s.withHeadGone rest := by
            simp only [t, ← hfailed, ← he]
            rfl
          cases r with
          | ok ws =>
            simp only [cmd]
            rw [exec_memoryOk ho ws hr, State.performed_read hq, State.deliverOk, State.releaseReadDone,
              show (s.withHeadGone rest).engine = _ from he, hsame]
            simp only [hfailed, Option.isSome_some, if_true]
          | error =>
            simp only [cmd, exec_memoryError ho hr, State.deliverError, Bool.false_eq_true, if_false]
            rw [State.engineFail_releasing (s := s.withHeadGone rest) q.addr he,
              if_neg (by simp [hfailed]), ← he, hsame]
            rfl
        · simp only [cmd, herr]
          rw [exec_memoryError ho hr, State.deliverError, State.engineFail_releasing (s := s.withHeadGone rest) q.addr he, if_pos hf]
          rfl
      obtain ⟨hwait, -, hrelease⟩ := t.engineFinish_ends
      refine ⟨fun hw => by rw [hcmd, hwait (.inl hw)], fun hw => ?_⟩
      rw [hcmd, (hrelease _ hw rfl).1 a rfl]
      rfl
  · rw [w.fmt_i8.mpr hf, pixelsOf_i8]
  · rw [w.fmt_i4.mpr hf, pixelsOf_i4]

end Sys2Proof.Machine
end

section
/-! PROOF. The memory timeout and the HALTED link. -/

namespace Sys2Proof.Machine

/-! ### Records stay in the fault queue (R176) -/

theorem FaultQueue.append_prefix (q : FaultQueue) (r : FaultRecord) : q.records <+: (q.append r).records := by
  unfold FaultQueue.append
  split
  · exact List.prefix_append ..
  · exact List.prefix_refl _

theorem State.flushFail_faults (s : State) (l : LineId) : s.faults.records <+: (s.flushFail l).faults.records := by
  rw [State.flushFail_eq]
  exact FaultQueue.append_prefix ..

theorem State.engineFail_faults (s : State) (a : Word32) : (s.engineFail a).faults = s.faults := by
  cases he : s.engine with
  | idle => rw [State.engineFail_idle a he]
  | filling f => rw [State.engineFail_filling a he]
  | releasing r => rw [State.engineFail_releasing a he]

theorem State.engineFinish_faults (s : State) : s.faults.records <+: s.engineFinish.faults.records := by
  unfold State.engineFinish
  split
  · exact List.prefix_refl _
  · split
    · exact List.prefix_refl _
    · split
      · exact FaultQueue.append_prefix ..
      · split
        · exact List.prefix_refl _
        · split <;> exact List.prefix_refl _
    · split
      · exact FaultQueue.append_prefix ..
      · split <;> exact List.prefix_refl _

theorem State.engineRefused_faults (s : State) (a : Word32) : s.faults.records <+: (s.engineFail a).engineFinish.faults.records := by
  have h := (s.engineFail a).engineFinish_faults
  rwa [State.engineFail_faults] at h

theorem State.scanEnd_faults (s : State) (st : ResultStatus) (c : Word32) : (s.scanEnd st c).faults = s.faults := by
  unfold State.scanEnd
  split <;> rfl

theorem State.deliverError_faults (s : State) (o : Outstanding) (wait : Bool) :
    s.faults.records <+: (s.deliverError o wait).faults.records := by
  unfold State.deliverError
  cases o.by' with
  | flushRead l | flushWrite l => exact s.flushFail_faults l
  | hostGroup id | hostPiece id => exact List.prefix_refl _
  | posted =>
    cases hq : o.req.lowestMasked with
    | some a => simp only [State.postedFail_masked hq]; exact FaultQueue.append_prefix ..
    | none => simp only [State.postedFail_unmasked hq]; exact FaultQueue.append_prefix ..
  | fill | release =>
    cases wait with
    | true => simp only [if_true, State.engineFail_faults]; exact List.prefix_refl _
    | false => exact s.engineRefused_faults o.req.addr
  | scan =>
    simp only [State.scanReply]
    split
    · simp only [State.scanEnd_faults]; exact List.prefix_refl _
    · unfold State.scanDiscard
      split <;> exact List.prefix_refl _
    · exact List.prefix_refl _

/-! ### The members of the list (R129, R133) -/

theorem State.failAll_softReset {s : State} (wait : Bool) (o : Outstanding) (rest : List Outstanding) (h : s.inSoftReset = true) :
    s.failAll wait (o :: rest) = (s.withHeadGone rest).failAll wait rest := by
  rw [State.failAll]
  simp only [h, if_true]
  rfl

theorem State.failAll_delivered {s : State} (wait : Bool) (o : Outstanding) (rest : List Outstanding) (h : s.inSoftReset = false) :
    s.failAll wait (o :: rest) = ((s.withHeadGone rest).deliverError o wait).failAll wait rest := by
  rw [State.failAll]
  simp only [h, Bool.false_eq_true, if_false]
  rfl

theorem State.failAll_faults (s : State) (wait : Bool) (os : List Outstanding) :
    s.faults.records <+: (s.failAll wait os).faults.records := by
  induction os generalizing s with
  | nil => exact List.prefix_refl _
  | cons o os ih =>
    cases h : s.inSoftReset with
    | true =>
      rw [State.failAll_softReset wait o os h]
      exact ih (s.withHeadGone os)
    | false =>
      rw [State.failAll_delivered wait o os h]
      exact ((s.withHeadGone os).deliverError_faults o wait).trans (ih _)

/-- The writes given up change memory and the free-value counter alone (R68). -/
theorem lateWrites_kept (os : List Outstanding) (s : State) :
    os.foldl State.lateWrite s =
      { s with memory := (os.foldl State.lateWrite s).memory, freeCount := (os.foldl State.lateWrite s).freeCount } := by
  induction os generalizing s with
  | nil => rfl
  | cons o os ih =>
    have hone : s.lateWrite o = { s with memory := (s.lateWrite o).memory, freeCount := (s.lateWrite o).freeCount } := by
      unfold State.lateWrite
      split <;> rfl
    rw [List.foldl_cons]
    refine (ih (s.lateWrite o)).trans ?_
    rw [hone]

/-! ### The requests presented (R124, R129) -/

/-- The request of host ingress answered ERROR without being issued (R70, R124, R156). -/
theorem State.mapHandling_refused (s : State) : s.hostRefused (s.mapHandling Handling.refused) := by
  intro h hh
  refine ⟨fun id ha => ?_, fun r p rest ha hr => ?_⟩
  · rw [State.mapHandling_some _ hh]
    simp only [Handling.refused, ha]
    rfl
  · rw [State.mapHandling_some _ hh]
    simp only [Handling.refused, ha, hr, Handling.pieceRefused, Handling.dropPiece_eq _ hr]
    rfl

/-- The steps of `failPresented`, one per block. -/
def State.flushRefused (s : State) : State :=
  match s.gather.present with
  | some l => s.flushFail l
  | none => s

def State.ingressRefused (s : State) : State := if s.hostRequest.isSome then s.mapHandling Handling.refused else s

def State.engineRefused (s : State) (e : Option (MemRequest × Requester)) : State :=
  match e with
  | some (q, _) => (s.engineFail q.addr).engineFinish
  | none => s

theorem State.failPresented_eq (s : State) (e : Option (MemRequest × Requester)) :
    s.failPresented e =
      if (s.flushRefused.ingressRefused.engineRefused e).scanRequest.isSome then
        (s.flushRefused.ingressRefused.engineRefused e).scanEnd .memError 0
      else s.flushRefused.ingressRefused.engineRefused e := rfl

theorem State.failPresented_faults (s : State) (e : Option (MemRequest × Requester)) :
    s.faults.records <+: (s.failPresented e).faults.records := by
  have hflush : s.faults.records <+: s.flushRefused.faults.records := by
    unfold State.flushRefused
    split
    · exact s.flushFail_faults _
    · exact List.prefix_refl _
  have hingress : s.flushRefused.ingressRefused.faults = s.flushRefused.faults := by
    unfold State.ingressRefused
    split <;> rfl
  have hengine (t : State) : t.faults.records <+: (t.engineRefused e).faults.records := by
    cases e with
    | none => exact List.prefix_refl _
    | some p => exact t.engineRefused_faults p.1.addr
  have hall := hflush.trans (hingress ▸ hengine s.flushRefused.ingressRefused)
  rw [State.failPresented_eq]
  split
  · rwa [State.scanEnd_faults]
  · exact hall

/-- Settles O25: what the memory timeout does, in its order, and what a HALTED link answers. -/
theorem memoryTimeoutHalts : Obligations.MemoryTimeoutHalts := by
  refine ⟨fun s o rest ho hdue => ?timeout, fun s wait o rest => ⟨rfl, State.failAll_softReset wait o rest,
    State.failAll_delivered wait o rest⟩, fun s e => ?presented, fun s => ⟨fun hrun => ?running, fun hhalt => ?halted⟩⟩
  case timeout =>
    have hexec : exec .memoryTimeout s = .next (s.expireMemory o).settle :=
      eventOutcome_some (e := s.timeoutEvent) (by simp only [State.timeoutEvent, ho, hdue, if_true])
    let t := s.appendFault { FaultRecord.bare .memoryTimeout with addr := some o.req.addr }
    have hlate : t.lateWrites = { t with memory := t.lateWrites.memory, freeCount := t.lateWrites.freeCount } :=
      lateWrites_kept t.link.outstanding t
    let u := t.lateWrites.failAll s.engineRequest.isSome s.link.outstanding
    let v : State := { u with link := { halted := true, outstanding := [] } }
    have hexpire : s.expireMemory o = v.failPresented s.engineRequest := rfl
    refine ⟨⟨s.expireMemory o, hexec, ?_, ?_, by simp, by simp,
      (keptByLinkOps_settings s.port.settings).expireMemory o rfl⟩, ?_⟩
    · rw [hexpire]
      simp [v]
    · rw [hexpire]
      have hrecord : t.lateWrites.faults = t.faults := by rw [hlate]
      have hall : t.lateWrites.faults.records <+: u.faults.records := State.failAll_faults ..
      have hlast : v.faults.records <+: (v.failPresented s.engineRequest).faults.records := State.failPresented_faults ..
      rw [hrecord] at hall
      exact hall.trans hlast
    · obtain ⟨late, hsub, hmem⟩ := lateWrites_sublist s.link.outstanding t
      refine ⟨late, t.lateWrites.freeCount, hsub, ?_⟩
      intro recorded
      have hrec : t.lateWrites = recorded := by
        rw [hlate, show t.lateWrites.memory = _ from hmem]
        rfl
      simp only [hexec, hexpire, v, u, hrec]
  case presented =>
    refine ⟨s.flushRefused, s.flushRefused.ingressRefused, s.flushRefused.ingressRefused.engineRefused e, fun l hl => ?_, fun hn => ?_,
      fun hr => ?_, fun hr => ?_, fun q y he => ?_, fun he => ?_, fun hr => ?_, fun hr => ?_⟩
    · rw [State.flushRefused, hl]
    · rw [State.flushRefused, hn]
    · rw [State.ingressRefused, if_pos (Option.isSome_iff_ne_none.mpr hr)]
      exact State.mapHandling_refused _
    · rw [State.ingressRefused, if_neg (by simp [hr])]
    · simp only [State.engineRefused, he]
    · simp only [State.engineRefused, he]
    · rw [State.failPresented_eq, if_pos (Option.isSome_iff_ne_none.mpr hr)]
    · rw [State.failPresented_eq, if_neg (by simp [hr])]
  case running => rw [State.haltedEvent, if_neg (by simp [hrun])]
  case halted =>
    have hnone : s.grantEvent = none := if_neg (by simp [hhalt])
    refine ⟨eventOutcome_none hnone, fun l hl => ?_, fun hn hh => ⟨_, ?_, s.mapHandling_refused⟩,
      fun hn hh => ⟨fun q y he => ?_, fun he => ⟨fun hs => ?_, fun hs => ?_⟩⟩⟩
    · rw [State.haltedEvent, if_pos hhalt, hl]
    · rw [State.haltedEvent, if_pos hhalt, hn]
      exact if_pos (Option.isSome_iff_ne_none.mpr hh)
    · simp only [State.haltedEvent, hhalt, if_true, hn, hh, Option.isSome_none, Bool.false_eq_true, if_false, he]
    · simp only [State.haltedEvent, hhalt, if_true, hn, hh, Option.isSome_none, Bool.false_eq_true, if_false, he]
      exact if_pos (Option.isSome_iff_ne_none.mpr hs)
    · simp only [State.haltedEvent, hhalt, if_true, hn, hh, Option.isSome_none, Bool.false_eq_true, if_false, he, hs]

end Sys2Proof.Machine
end

section
/-! PROOF. The gather buffer's and the windows' own events, and the mirror link. -/

namespace Sys2Proof.Machine

/-! ### Lines (R53, R54, R61, R65, R112) -/

theorem reached_iff (sent m : Half) : reached sent m = true ↔ (sent - m).toNat < 32768 := by
  simp only [reached, decide_eq_true_eq]

theorem Mirror.satisfied_iff (m : Mirror) (mark : Half) :
    m.satisfied mark = true ↔ m.link = .detached ∨ (m.sent - mark).toNat < 32768 ∨ m.queue = [] := by
  simp only [Mirror.satisfied, Bool.or_eq_true, beq_iff_eq, reached_iff, List.isEmpty_iff, or_assoc]

/-- A line whose mirror wait is satisfied goes to WRITE_WAIT. -/
theorem State.mirrorWaitEvent_open {s : State} {l : LineId} (hf : (s.line l).state = .flushing) (hp : (s.line l).phase = some .mirrorWait)
    (hm : s.mirror.satisfied (s.line l).mark = true) :
    s.mirrorWaitEvent l = some (s.setLine l { s.line l with phase := some .writeWait, issued := false }) := by
  simp only [State.mirrorWaitEvent, hf, hp, hm, beq_self_eq_true, Bool.and_self, if_true]

/-- Settles O26: the idle expiry of a line, and the end of its mirror wait. -/
theorem lineEvents : Obligations.LineEvents := by
  refine fun s l => ⟨fun hdue => ?idle, fun hf hp hm => ?wait⟩
  case idle =>
    have hg : (s.line l).state = .gathering := ((s.idleDue_iff l).mp hdue).2.1
    have hexec : exec (.idleExpiry l) s = .next (s.startFlush l .idle).settle := eventOutcome_some (e := s.idleEvent l) (if_pos hdue)
    have hline (k : LineId) : (s.flushed l .idle).line k = _ := s.line_flushed l k .idle
    refine ⟨s.flushed l .idle, by rw [hexec, s.startFlush_gathering l .idle hg]; rfl, by rw [hline, if_pos rfl],
      fun j hj => by rw [hline, if_neg (Ne.symm hj)], filter_bne .., rfl, rfl, rfl, rfl, rfl, rfl, rfl, rfl⟩
  case wait =>
    have hevent := State.mirrorWaitEvent_open hf hp ((s.mirror.satisfied_iff _).mpr hm)
    refine ⟨_, eventOutcome_some hevent, by rw [State.line_setLine, if_pos rfl],
      fun j hj => by rw [State.line_setLine, if_neg (Ne.symm hj)], rfl, rfl, rfl, rfl, rfl, rfl⟩

/-! ### Windows (R29, R30, R35, R36, R112) -/

theorem State.holdsBeat_iff (s : State) (w : WindowId) :
    s.holdsBeat w = true ↔ ∃ h, s.host.handling = some h ∧
      ((∃ b, h.activity = .placing b ∧ b.window = w) ∨
        ∃ r ∈ h.reads, r.window = w ∧ (r.status = .presented ∨ r.status = .outstanding)) := by
  cases hh : s.host.handling with
  | none => simp [State.holdsBeat, hh]
  | some h => cases ha : h.activity <;> simp [State.holdsBeat, hh, ha]

theorem State.windowHasLine_none {s : State} {w : WindowId} (h : ∀ l, (s.line l).state ≠ .free → (s.line l).window ≠ w) :
    s.windowHasLine w = false := by
  simpa [State.windowHasLine, allLines] using h

theorem State.announcing_filling {s : State} {f : Fill} (he : s.engine = .filling f) (hp : f.phase = .announce)
    (ha : f.aborted = false) : s.announcing = some f := by
  simp only [State.announcing, he, hp, ha, beq_self_eq_true, Bool.not_false, Bool.and_self, if_true]

theorem State.fillEnqueue_eq (s : State) (f : Fill) :
    s.fillEnqueue f =
      { s with
        mirror :=
          { s.mirror with
            enqueued := s.mirror.enqueued + 1
            queue := s.mirror.queue ++
              [{ kind := .entry, seq := s.mirror.enqueued + 1, entry := (s.win f.window).fillEntryId
                 colour := (s.entry (s.win f.window).fillEntryId).colour }] }
        engine := .filling { f with phase := .sending (s.mirror.enqueued + 1) } } := rfl

/-- Settles O28: the end of a drain, the second phase of a release, and the phases of a fill. -/
theorem drainAndFillPhases : Obligations.DrainAndFillPhases := by
  refine ⟨State.holdsBeat_iff, fun s w hd ha hl hb hr => ?drain, fun s r he hr hl hb => ?release,
    fun s f he ha => ⟨fun hp hlink => ?alone, fun hp hlink hroom => ?announced, fun n hp hm => ?sent⟩⟩
  case drain =>
    refine eventOutcome_some (e := s.drainEvent w) ?_
    simp only [State.drainEvent, hd, ha, State.windowHasLine_none hl, hb, hr, beq_self_eq_true, Bool.not_false, Bool.and_self, if_true]
    rfl
  case release =>
    refine eventOutcome_some (e := s.release2Event) ?_
    simp only [State.release2Event, he, hr, State.windowHasLine_none hl, hb, Bool.not_false, Bool.and_self, if_true]
    rfl
  case alone =>
    refine eventOutcome_some (e := s.fillAnnounceEvent) ?_
    simp only [State.fillAnnounceEvent, State.announcing_filling he hp ha, hlink, beq_self_eq_true, if_true]
  case announced =>
    have hevent : s.fillAnnounceEvent = some (s.fillEnqueue f) := by
      simp only [State.fillAnnounceEvent, State.announcing_filling he hp ha, beq_iff_eq, hlink, if_false,
        s.mirror.hasRoom_iff.mpr hroom, if_true]
    exact eventOutcome_some hevent
  case sent =>
    refine eventOutcome_some (e := s.fillPhase2Event) ?_
    simp only [State.fillPhase2Event, he, hp, (s.mirror.satisfied_iff n).mpr hm, ha, Bool.not_false, Bool.and_self, if_true]

/-! ### The mirror link (R102 to R107, R109, R110, R113, R114) -/

theorem Message.bytes_eq (m : Message) :
    m.bytes =
      [match m.kind with | .entry => 0x01 | .resyncBegin => 0x02 | .resyncEnd => 0x03,
        BitVec.ofNat 8 (m.seq.toNat / 256), BitVec.ofNat 8 m.seq.toNat, BitVec.ofNat 8 m.entry.val, m.colour.r, m.colour.g,
        m.colour.b] := by
  have hhigh : m.seq.extractLsb' 8 8 = BitVec.ofNat 8 (m.seq.toNat / 256) := by
    apply BitVec.eq_of_toNat_eq
    rw [BitVec.extractLsb'_toNat, Nat.shiftRight_eq_div_pow, BitVec.toNat_ofNat]
  have hlow : m.seq.extractLsb' 0 8 = BitVec.ofNat 8 m.seq.toNat := by
    apply BitVec.eq_of_toNat_eq
    rw [BitVec.extractLsb'_toNat, Nat.shiftRight_zero, BitVec.toNat_ofNat]
  rw [Message.bytes, hhigh, hlow]
  cases m.kind <;> rfl

theorem State.beatWaitsSpace_iff (s : State) :
    s.beatWaitsSpace = true ↔ ∃ h b, s.host.handling = some h ∧ h.activity = .placing b ∧ b.wait = .space := by
  cases hh : s.host.handling with
  | none => simp [State.beatWaitsSpace, hh]
  | some h => cases ha : h.activity <;> simp [State.beatWaitsSpace, hh, ha]

theorem State.announcing_iff (s : State) (f : Fill) :
    s.announcing = some f ↔ s.engine = .filling f ∧ f.phase = .announce ∧ f.aborted = false := by
  refine ⟨State.announcing_eq_some, fun ⟨he, hp, ha⟩ => State.announcing_filling he hp ha⟩

section
variable {s : State} (hw : s.mirror.walk = .entries)
include hw

theorem State.resyncNext_entry (hp : s.mirror.pointer ≠ 255) :
    s.resyncNext =
      { s with
        mirror :=
          { s.mirror with
            enqueued := s.mirror.enqueued + 1
            queue := s.mirror.queue ++
              [{ kind := .entry, seq := s.mirror.enqueued + 1, entry := s.mirror.pointer
                 colour := (s.entry s.mirror.pointer).colour }]
            pointer := s.mirror.pointer + 1 } } := by
  simp only [State.resyncNext, hw]
  rw [if_neg (show ¬s.mirror.pointer.val = 255 from fun h => hp (Fin.ext h)), ← hw]
  rfl

theorem State.resyncNext_lastEntry (hp : s.mirror.pointer = 255) :
    s.resyncNext =
      { s with
        mirror :=
          { s.mirror with
            enqueued := s.mirror.enqueued + 1
            queue := s.mirror.queue ++
              [{ kind := .entry, seq := s.mirror.enqueued + 1, entry := s.mirror.pointer
                 colour := (s.entry s.mirror.pointer).colour }]
            walk := .ending } } := by
  simp only [State.resyncNext, hw]
  rw [if_pos (by rw [hp]; rfl)]
  rfl

end

theorem State.resyncNext_ending {s : State} (hw : s.mirror.walk = .ending) :
    s.resyncNext =
      { s with
        mirror :=
          { s.mirror with
            enqueued := s.mirror.enqueued + 1
            queue := s.mirror.queue ++
              [{ kind := .resyncEnd, seq := s.mirror.enqueued + 1, entry := 0, colour := { r := 0, g := 0, b := 0 } }]
            walk := .over } } := by
  simp only [State.resyncNext, hw]
  rfl

theorem Mirror.walking_iff (m : Mirror) : m.walking = true ↔ m.link = .resync ∧ m.walk ≠ .over := by
  simp only [Mirror.walking, Bool.and_eq_true, beq_iff_eq, bne_iff_ne]

/-- Settles O30: the messages of the resync generator. -/
theorem resyncWalks : Obligations.ResyncWalks := by
  intro s hlink hroom hheld hbeat hann entry
  have hexec (hw : s.mirror.walk ≠ .over) : exec .resyncEnqueue s = .next s.resyncNext.settle := by
    refine eventOutcome_some (e := s.resyncEvent) (if_pos ?_)
    simp only [s.mirror.walking_iff.mpr ⟨hlink, hw⟩, s.mirror.hasRoom_iff.mpr hroom, hheld, hbeat, hann, List.isEmpty_nil,
      Option.isNone_none, Bool.not_false, Bool.and_self]
  exact ⟨fun hw hp => by rw [hexec (by simp [hw]), State.resyncNext_entry hw hp],
    fun hw hp => by rw [hexec (by simp [hw]), State.resyncNext_lastEntry hw hp],
    fun hw => by rw [hexec (by simp [hw]), State.resyncNext_ending hw]⟩

/-- A grant that finds no place. -/
theorem State.grantPlace_full {s : State} (h : s.mirror.link = .detached ∨ 16 ≤ s.mirror.level) : s.grantPlace = s := by
  refine if_pos ?_
  rcases h with h | h
  · simp [h]
  · have hno : s.mirror.hasRoom = false := Bool.eq_false_iff.mpr fun hr => absurd (s.mirror.hasRoom_iff.mp hr) (by omega)
    simp [hno]

section
variable {s : State} (hlink : s.mirror.link ≠ .detached) (hroom : s.mirror.level < 16)
include hlink hroom

/-! The place goes to the first claimant in the order of R107. -/

theorem State.grant_open : (s.mirror.link == .detached || !s.mirror.hasRoom) = false := by
  simp [hlink, s.mirror.hasRoom_iff.mpr hroom]

theorem State.grantPlace_held {e : EntryId} {es : List EntryId} (hheld : s.colour.held = e :: es) :
    s.grantPlace = ({ s with colour := { s.colour with held := es } }).announce e := by
  simp only [State.grantPlace, State.grant_open hlink hroom, Bool.false_eq_true, if_false, hheld]

variable (hheld : s.colour.held = [])
include hheld

theorem State.grantPlace_beat (hb : s.beatWaitsSpace = true) :
    s.grantPlace = { s with mirror := { s.mirror with reserve := true } } := by
  simp only [State.grantPlace, State.grant_open hlink hroom, Bool.false_eq_true, if_false, hheld, hb, if_true]

variable (hb : s.beatWaitsSpace = false)
include hb

theorem State.grantPlace_fill {f : Fill} (hf : s.announcing = some f) : s.grantPlace = s.fillEnqueue f := by
  simp only [State.grantPlace, State.grant_open hlink hroom, hheld, hb, Bool.false_eq_true, if_false, hf]

theorem State.grantPlace_resync (hf : s.announcing = none) :
    s.grantPlace = if s.mirror.walking then s.resyncNext else s := by
  simp only [State.grantPlace, State.grant_open hlink hroom, hheld, hb, Bool.false_eq_true, if_false, hf]

end

/-- Settles O29: a message's bytes, the start and the end of a transmission, and the grant of the place that it frees. -/
theorem messagesStartAndLeave : Obligations.MessagesStartAndLeave := by
  refine ⟨⟨Message.bytes_eq, fun o ho => by rw [Outputs.mdat, ho]; rfl, fun o m => by simp [Outputs.mdat]⟩,
    fun s => ⟨fun hl hc hs hq => ?start, fun m rest hq hs => ?sent⟩, fun s => ?grant⟩
  case start => exact eventOutcome_some (e := s.startEvent) (if_pos ⟨hl, hc, hs, hq⟩)
  case sent =>
    have hevent : s.sentEvent = some (s.sendHead m rest).grantPlace := by simp only [State.sentEvent, hq, hs, if_true]
    refine (eventOutcome_some hevent : exec .messageSent s = _).trans ?_
    simp only [State.sendHead, beq_iff_eq]
  case grant =>
    intro n queued entry waits filling
    refine ⟨fun hr => if_neg (by simp [hr]), fun hr => if_pos hr, rfl, State.grantPlace_full, fun hlink hroom => ?_⟩
    refine ⟨fun e es hheld => State.grantPlace_held hlink hroom hheld, fun hheld => ⟨fun hw => ?_, fun f hw hf => ?_, fun hw hf => ?_⟩⟩
    · exact State.grantPlace_beat hlink hroom hheld (s.beatWaitsSpace_iff.mpr hw)
    all_goals have hb : s.beatWaitsSpace = false := Bool.eq_false_iff.mpr fun hc => hw (s.beatWaitsSpace_iff.mp hc)
    · exact State.grantPlace_fill hlink hroom hheld hb ((s.announcing_iff f).mpr hf)
    · have hgrant := State.grantPlace_resync hlink hroom hheld hb
        (Option.eq_none_iff_forall_ne_some.mpr fun f hc => hf f ((s.announcing_iff f).mp hc))
      have hwalk (hl : s.mirror.link = .resync) (ho : s.mirror.walk ≠ .over) : s.grantPlace = s.resyncNext := by
        rw [hgrant, if_pos (s.mirror.walking_iff.mpr ⟨hl, ho⟩)]
      refine ⟨fun h => ?_, fun hl he => ⟨fun hp => ?_, fun hp => ?_⟩, fun hl he => ?_⟩
      · rw [hgrant, if_neg]
        rw [s.mirror.walking_iff]
        exact fun hc => h.elim (fun h => h hc.1) hc.2
      · rw [hwalk hl (by simp [he]), State.resyncNext_entry he hp]
      · rw [hwalk hl (by simp [he]), State.resyncNext_lastEntry he hp, hp]
      · rw [hwalk hl (by simp [he]), State.resyncNext_ending he]

/-- Settles O31: credits, and the stall of the mirror link. -/
theorem creditAndStall : Obligations.CreditAndStall := by
  refine ⟨fun s => ⟨fun hl => ?_, fun hl hc => ?_, fun hl hc => ?_⟩, fun s hdue => ?stall⟩
  · exact congrArg (fun t : State => Host.Outcome.next t.settle) (if_pos hl : s.credit = s)
  · exact congrArg (fun t : State => Host.Outcome.next t.settle) ((if_neg hl).trans (if_pos hc) : s.credit = _)
  · exact congrArg (fun t : State => Host.Outcome.next t.settle)
      ((if_neg hl).trans (if_neg (Nat.not_lt.mpr hc)) : s.credit = _)
  case stall =>
    exact ⟨_, eventOutcome_some (e := s.stallEvent) (if_pos hdue), rfl, rfl, rfl, rfl, rfl, rfl, rfl, rfl, rfl, rfl, rfl, rfl, rfl, rfl,
      rfl, rfl⟩

end Sys2Proof.Machine
end

section
/-! PROOF. Where a pixel's stored value lies in its group's data, and the data that a flush writes. -/

namespace Sys2Proof.Machine

/-! ### Formats (Tables 1-1, 1-2) -/

theorem Fmt.pixels_le (f : Fmt) : f.pixels ≤ 16 := by cases f <;> decide

theorem Fmt.pixels_pos (f : Fmt) : 0 < f.pixels := by cases f <;> decide

theorem Fmt.width_le (f : Fmt) : f.width ≤ 24 := by cases f <;> decide

/-- The slots of a group fit into its data. -/
theorem Fmt.slot_fits (f : Fmt) {i : SlotId} (hi : i.val < f.pixels) : f.width * i.val + f.width ≤ 192 := by
  cases f <;> simp only [Fmt.pixels, Fmt.width] at hi ⊢ <;> omega

theorem Window.slotOf_val (w : Window) (a : Nat) : (w.slotOf a).val = (a - w.hbase.toNat) / 4 % w.fmt.pixels := by
  have hlt := Nat.mod_lt ((a - w.hbase.toNat) / 4) w.fmt.pixels_pos
  exact Nat.mod_eq_of_lt (lt_of_lt_of_le hlt w.fmt.pixels_le)

/-! ### The bits of a slot (R4, Table 11-2) -/

/-- The bits of slot i. -/
def Fmt.slotBits (f : Fmt) (d : GroupData) (i : SlotId) : BitVec 24 :=
  (d >>> (f.width * i.val)).setWidth 24 &&& BitVec.ofNat 24 (2 ^ f.width - 1)

theorem Fmt.getSlot_eq (f : Fmt) (d : GroupData) (i : SlotId) : f.getSlot d i = f.storedOf (f.slotBits d i) := rfl

theorem Fmt.slotBits_getLsbD (f : Fmt) (d : GroupData) (i : SlotId) (j : Nat) :
    (f.slotBits d i).getLsbD j = (decide (j < f.width) && d.getLsbD (f.width * i.val + j)) := by
  have hw := f.width_le
  rw [Fmt.slotBits, BitVec.getLsbD_and, BitVec.getLsbD_setWidth, BitVec.getLsbD_ushiftRight, BitVec.getLsbD_ofNat,
    Nat.testBit_two_pow_sub_one]
  by_cases hj : j < f.width
  · simp [hj, show j < 24 by omega]
  · simp [hj]

theorem Fmt.slotBits_extract (f : Fmt) (d : GroupData) (i : SlotId) {k n : Nat} (h : k + n ≤ f.width) :
    (f.slotBits d i).extractLsb' k n = d.extractLsb' (f.width * i.val + k) n := by
  apply BitVec.eq_of_getLsbD_eq
  intro j hj
  rw [BitVec.getLsbD_extractLsb', BitVec.getLsbD_extractLsb', Fmt.slotBits_getLsbD, decide_eq_true (show k + j < f.width by omega),
    Bool.true_and, Nat.add_assoc]

/-- Bits of a field taken out of a field. -/
theorem extract_extract {w : Nat} (d : BitVec w) {a m k n : Nat} (h : k + n ≤ m) :
    (d.extractLsb' a m).extractLsb' k n = d.extractLsb' (a + k) n := by
  apply BitVec.eq_of_getLsbD_eq
  intro j hj
  rw [BitVec.getLsbD_extractLsb', BitVec.getLsbD_extractLsb', BitVec.getLsbD_extractLsb', decide_eq_true (show k + j < m by omega),
    Bool.true_and, Nat.add_assoc]

theorem extract_setWidth {w : Nat} (x : BitVec w) {m k n : Nat} (h : k + n ≤ m) :
    (x.setWidth m).extractLsb' k n = x.extractLsb' k n := by
  apply BitVec.eq_of_getLsbD_eq
  intro j hj
  rw [BitVec.getLsbD_extractLsb', BitVec.getLsbD_extractLsb', BitVec.getLsbD_setWidth, decide_eq_true (show k + j < m by omega),
    Bool.true_and]

/-- Two adjacent bytes. -/
theorem bytes_append (d : GroupData) (k : Nat) :
    d.extractLsb' (8 * (k + 1)) 8 ++ d.extractLsb' (8 * k) 8 = d.extractLsb' (8 * k) 16 := by
  apply BitVec.eq_of_getLsbD_eq
  intro j hj
  rw [BitVec.getLsbD_append, BitVec.getLsbD_extractLsb', BitVec.getLsbD_extractLsb', BitVec.getLsbD_extractLsb']
  by_cases h : j < 8
  · simp [h, hj]
  · simp [h, hj, show j - 8 < 8 by omega, show 8 * (k + 1) + (j - 8) = 8 * k + j by omega]

/-- Where each format's stored value lies. -/
theorem getSlot_bytes (d : GroupData) (i : SlotId) :
    let byte (k : Nat) : Byte := d.extractLsb' (8 * k) 8
    let two : BitVec 16 := byte (2 * i.val + 1) ++ byte (2 * i.val)
    Fmt.p24.getSlot d i = .rgb24 (byte (3 * i.val + 2)) (byte (3 * i.val + 1)) (byte (3 * i.val)) ∧
    Fmt.p16.getSlot d i = .rgb16 (two.extractLsb' 11 5) (two.extractLsb' 5 6) (two.extractLsb' 0 5) ∧
    Fmt.p15.getSlot d i = .rgb15 (two.getLsbD 15) (two.extractLsb' 10 5) (two.extractLsb' 5 5) (two.extractLsb' 0 5) ∧
    Fmt.i8.getSlot d i = .index8 (byte i.val) ∧
    Fmt.i4.getSlot d i = .index4 ((byte (i.val / 2)).extractLsb' (4 * (i.val % 2)) 4) := by
  intro byte two
  have htwo : two = d.extractLsb' (16 * i.val) 16 := by
    rw [show 16 * i.val = 8 * (2 * i.val) by omega]
    exact bytes_append d (2 * i.val)
  have hpart (f : Fmt) (hf : f.width = 16) (k n : Nat) (h : k + n ≤ 16) :
      (f.slotBits d i).extractLsb' k n = two.extractLsb' k n := by
    rw [f.slotBits_extract d i (by omega), htwo, extract_extract d h, hf]
  have hbyte (f : Fmt) (k m : Nat) (h : k + 8 ≤ f.width) (hm : f.width * i.val + k = 8 * m) :
      (f.slotBits d i).extractLsb' k 8 = byte m := by
    rw [f.slotBits_extract d i h, hm]
  refine ⟨?_, ?_, ?_, ?_, ?_⟩
  · rw [Fmt.getSlot_eq, Fmt.storedOf, hbyte .p24 16 (3 * i.val + 2) (by decide) (by simp only [Fmt.width]; omega),
      hbyte .p24 8 (3 * i.val + 1) (by decide) (by simp only [Fmt.width]; omega),
      hbyte .p24 0 (3 * i.val) (by decide) (by simp only [Fmt.width]; omega)]
  · rw [Fmt.getSlot_eq, Fmt.storedOf, hpart .p16 rfl 11 5 (by decide), hpart .p16 rfl 5 6 (by decide), hpart .p16 rfl 0 5 (by decide)]
  · rw [Fmt.getSlot_eq, Fmt.storedOf, hpart .p15 rfl 10 5 (by decide), hpart .p15 rfl 5 5 (by decide), hpart .p15 rfl 0 5 (by decide),
      Fmt.slotBits_getLsbD, htwo, BitVec.getLsbD_extractLsb']
    rfl
  · rw [Fmt.getSlot_eq, Fmt.storedOf, hbyte .i8 0 i.val (by decide) (by simp only [Fmt.width]; omega)]
  · rw [Fmt.getSlot_eq, Fmt.storedOf, Fmt.i4.slotBits_extract d i (by decide), extract_extract d (by omega)]
    simp only [Fmt.width]
    congr 2
    omega

/-! ### The pixels that memory bytes complete (R140) -/

theorem storedOf_word16 (x : BitVec 16) :
    Fmt.storedOf .p16 (x.setWidth 24) = .rgb16 (x.extractLsb' 11 5) (x.extractLsb' 5 6) (x.extractLsb' 0 5) := by
  rw [Fmt.storedOf, extract_setWidth x (by decide), extract_setWidth x (by decide), extract_setWidth x (by decide)]

theorem storedOf_word15 (x : BitVec 16) :
    Fmt.storedOf .p15 (x.setWidth 24) =
      .rgb15 (x.getLsbD 15) (x.extractLsb' 10 5) (x.extractLsb' 5 5) (x.extractLsb' 0 5) := by
  rw [Fmt.storedOf, extract_setWidth x (by decide), extract_setWidth x (by decide), extract_setWidth x (by decide),
    BitVec.getLsbD_setWidth]
  rfl

theorem storedOf_bytes (r g b : Byte) : Fmt.storedOf .p24 (r ++ g ++ b) = .rgb24 r g b := by
  have hbit (k : Nat) : (r ++ g ++ b).getLsbD k =
      if k < 8 then b.getLsbD k else if k < 16 then g.getLsbD (k - 8) else r.getLsbD (k - 16) := by
    rw [BitVec.getLsbD_append, BitVec.getLsbD_append]
    by_cases h : k < 8
    · simp [h]
    · by_cases h' : k < 16
      · simp [h, h', show k - 8 < 8 by omega]
      · simp [h, h', show ¬k - 8 < 8 by omega, show k - 8 - 8 = k - 16 by omega]
  have hpart {x : Byte} {k : Nat} (h : ∀ j < 8, (r ++ g ++ b).getLsbD (k + j) = x.getLsbD j) :
      (r ++ g ++ b).extractLsb' k 8 = x := by
    apply BitVec.eq_of_getLsbD_eq
    intro j hj
    rw [BitVec.getLsbD_extractLsb', decide_eq_true hj, Bool.true_and]
    exact h j hj
  rw [Fmt.storedOf, hpart (x := r) (k := 16), hpart (x := g) (k := 8), hpart (x := b) (k := 0)]
  all_goals
    intro j hj
    rw [hbit]
  · rw [if_pos (by omega), Nat.zero_add]
  · rw [if_neg (by omega), if_pos (by omega), Nat.add_sub_cancel_left]
  · rw [if_neg (by omega), if_neg (by omega), Nat.add_sub_cancel_left]

/-! ### The data that a flush writes (R64) -/

/-- A stored value of the format has no bit beyond its width. -/
theorem Stored.field_getLsbD {f : Fmt} {v : Stored} (hv : f.storedOf v.field = v) {j : Nat} (hj : f.width ≤ j) :
    v.field.getLsbD j = false := by
  have hwidth {m : Nat} (x : BitVec m) (hm : m ≤ j) : (x.setWidth 24).getLsbD j = false := by
    rw [BitVec.getLsbD_setWidth, BitVec.getLsbD_of_ge x j hm, Bool.and_false]
  cases f <;> rw [← hv]
  · exact BitVec.getLsbD_of_ge _ j hj
  · exact hwidth _ hj
  · exact hwidth _ hj
  · exact hwidth _ hj
  · exact hwidth _ hj

theorem Fmt.putSlot_getLsbD (f : Fmt) (d : GroupData) (i : SlotId) (v : Stored) {k : Nat} (hk : k < 192) :
    (f.putSlot d i v).getLsbD k =
      (d.getLsbD k && !(decide (f.width * i.val ≤ k) && decide (k < f.width * i.val + f.width)) ||
        (decide (f.width * i.val ≤ k) && v.field.getLsbD (k - f.width * i.val))) := by
  rw [Fmt.putSlot, BitVec.getLsbD_or, BitVec.getLsbD_and, BitVec.getLsbD_not, BitVec.getLsbD_shiftLeft, BitVec.getLsbD_shiftLeft,
    BitVec.getLsbD_setWidth, BitVec.getLsbD_ofNat, Nat.testBit_two_pow_sub_one]
  by_cases h : f.width * i.val ≤ k
  · have hlt : k - f.width * i.val < 192 := by omega
    have hin : (k - f.width * i.val < f.width) ↔ k < f.width * i.val + f.width := by omega
    simp [hk, h, Nat.not_lt.mpr h, hlt, hin]
  · simp [hk, h, Nat.not_le.mp h]

/-- A slot reads as it was put. -/
theorem Fmt.getSlot_putSlot_same {f : Fmt} (d : GroupData) {i : SlotId} {v : Stored} (hi : i.val < f.pixels)
    (hv : f.storedOf v.field = v) : f.getSlot (f.putSlot d i v) i = v := by
  have hfit := f.slot_fits hi
  have hbits : f.slotBits (f.putSlot d i v) i = v.field := by
    apply BitVec.eq_of_getLsbD_eq
    intro j hj
    rw [Fmt.slotBits_getLsbD]
    by_cases h : j < f.width
    · rw [Fmt.putSlot_getLsbD f d i v (by omega)]
      simp [h]
    · simp [h, Stored.field_getLsbD hv (Nat.not_lt.mp h)]
  rw [Fmt.getSlot_eq, hbits, hv]

/-- The other slots stay. -/
theorem Fmt.getSlot_putSlot_other {f : Fmt} (d : GroupData) {i j : SlotId} {v : Stored} (hij : i ≠ j) (hj : j.val < f.pixels)
    (hv : f.storedOf v.field = v) : f.getSlot (f.putSlot d i v) j = f.getSlot d j := by
  have hfit := f.slot_fits hj
  have hbits : f.slotBits (f.putSlot d i v) j = f.slotBits d j := by
    apply BitVec.eq_of_getLsbD_eq
    intro k hk
    rw [Fmt.slotBits_getLsbD, Fmt.slotBits_getLsbD]
    by_cases h : k < f.width
    · rw [Fmt.putSlot_getLsbD f d i v (by omega)]
      rcases Nat.lt_or_gt_of_ne fun h => hij (Fin.ext h) with hlt | hgt
      · have hle : f.width * i.val + f.width ≤ f.width * j.val := by
          rw [← Nat.mul_succ]
          exact Nat.mul_le_mul_left _ hlt
        have hzero := Stored.field_getLsbD hv (j := f.width * j.val + k - f.width * i.val) (by omega)
        simp [hzero, show ¬f.width * j.val + k < f.width * i.val + f.width by omega]
      · have hle : f.width * j.val + f.width ≤ f.width * i.val := by
          rw [← Nat.mul_succ]
          exact Nat.mul_le_mul_left _ hgt
        simp [show ¬f.width * i.val ≤ f.width * j.val + k by omega]
    · simp [h]
  rw [Fmt.getSlot_eq, Fmt.getSlot_eq, hbits]

/-- Slots put in one after another: each listed slot that is occupied reads as its value. -/
theorem Fmt.getSlot_fold {f : Fmt} {slots : Vector (Option Stored) 16}
    (hs : ∀ (i : SlotId) v, slots[i] = some v → i.val < f.pixels ∧ f.storedOf v.field = v) {j : SlotId} (hj : j.val < f.pixels)
    (is : List SlotId) (hn : is.Nodup) (d : GroupData) :
    f.getSlot ((is.filterMap (fun i => (slots[i]).map (fun v => (i, v)))).foldl (fun d p => f.putSlot d p.1 p.2) d) j =
      if j ∈ is then (slots[j]).getD (f.getSlot d j) else f.getSlot d j := by
  induction is generalizing d with
  | nil => rfl
  | cons i is ih =>
    obtain ⟨hi, hn⟩ := List.nodup_cons.mp hn
    rw [List.filterMap_cons]
    cases hv : slots[i] with
    | none =>
      simp only [Option.map_none, ih hn d]
      by_cases hji : j = i
      · subst hji
        simp [hi, hv]
      · simp [hji]
    | some v =>
      obtain ⟨hip, hval⟩ := hs i v hv
      simp only [Option.map_some, List.foldl_cons, ih hn]
      by_cases hji : j = i
      · subst hji
        simp [hi, hv, Fmt.getSlot_putSlot_same d hip hval]
      · simp [hji, Fmt.getSlot_putSlot_other d (Ne.symm hji) hj hval]

/-- Settles O27: where a pixel lives, what memory bytes are pixels, and what a flush writes. -/
theorem mergedGroupData : Obligations.MergedGroupData := by
  refine ⟨fun w a g => ⟨rfl, w.slotOf_val a, rfl⟩, ⟨rfl, rfl⟩, fun d i => ?slots, fun x y z bs => ?pixels, fun w ln hs i hi => ?merged⟩
  case slots =>
    obtain ⟨h24, h16, h15, h8, h4⟩ := getSlot_bytes d i
    exact ⟨fun _ => h24, fun _ => h16, fun _ => h15, fun _ => h8, h4⟩
  case pixels =>
    intro two more
    refine ⟨?_, ?_, ?_, ?_, ?_, ?_, ?_, ?_, ?_, fun f => ?_⟩
    · rw [Fmt.pixelsOf, storedOf_bytes]
      rfl
    · rw [Fmt.pixelsOf, storedOf_word16]
      rfl
    · rw [Fmt.pixelsOf, storedOf_word15]
      rfl
    · rw [Fmt.pixelsOf]
      rfl
    · rw [Fmt.pixelsOf]
      rfl
    · rfl
    · rfl
    · rfl
    · rfl
    · cases f <;> rfl
  case merged =>
    have hfold := Fmt.getSlot_fold hs hi allSlots (List.nodup_finRange 16) ln.data
    rw [if_pos (show i ∈ allSlots from List.mem_finRange i)] at hfold
    exact hfold

end Sys2Proof.Machine
end

section
/-! PROOF. The scan unit's own events, and the actions. -/

namespace Sys2Proof.Machine

/-! ### Scans (R135 to R139) -/

theorem Window.quietExpired_scan {x : Window} (hd : x.dirty = true) (hp : x.pending = false) :
    x.quietExpired = { x with timer := .idle, pending := true, trigger := .quiet } := by
  simp [Window.quietExpired, hd, hp]

theorem Window.quietExpired_none {x : Window} (h : x.dirty = false ∨ x.pending = true) : x.quietExpired = { x with timer := .idle } := by
  rcases h with h | h <;> simp [Window.quietExpired, h]

section
variable {s : State} {w : WindowId}

theorem State.judgeScan_notArmed (h : (s.win w).state ≠ .armed) : s.judgeScan w = .refuse .notArmed := if_pos h

theorem State.judgeScan_pending (h : (s.win w).state = .armed) (hp : (s.win w).pending = true) : s.judgeScan w = .accept s :=
  (if_neg (not_not.mpr h)).trans (if_pos hp)

theorem State.judgeScan_taken (h : (s.win w).state = .armed) (hp : (s.win w).pending = false) :
    s.judgeScan w = .accept (s.setWin w { s.win w with pending := true, trigger := .command }) :=
  (if_neg (not_not.mpr h)).trans (if_neg (by simp [hp]))

end

/-- Settles O33: a quiet expiry, and the rule of SCAN. -/
theorem scansBecomePending : Obligations.ScansBecomePending := by
  refine fun s w => ⟨fun hdue => ?quiet, fun ht => ?scan⟩
  case quiet =>
    have hexec : exec (.quietExpiry w) s = .next (s.setWin w (s.win w).quietExpired).settle :=
      eventOutcome_some (e := s.quietEvent w) (if_pos hdue)
    exact ⟨fun hd hp => by rw [hexec, Window.quietExpired_scan hd hp]; rfl,
      fun h => by rw [hexec, Window.quietExpired_none h]; rfl⟩
  case scan =>
    intro cmd
    have hcmd : cmd = .next (s.answer 3 (s.opened.judgeScan w)).settle := exec_scan ht w
    exact ⟨fun h => by rw [hcmd, State.judgeScan_notArmed (s := s.opened) h]; rfl,
      fun h hp => by rw [hcmd, State.judgeScan_pending (s := s.opened) h hp]; rfl,
      fun h hp => by rw [hcmd, State.judgeScan_taken (s := s.opened) h hp]; rfl⟩

/-- A line whose flush has been started is not GATHERING, and a flush started elsewhere leaves it so. -/
theorem State.startFlush_state (s : State) (l k : LineId) (c : FlushCause) (h : k = l ∨ (s.line k).state ≠ .gathering) :
    ((s.startFlush l c).line k).state ≠ .gathering := by
  by_cases hg : (s.line l).state = .gathering
  · rw [s.startFlush_gathering l c hg]
    change ((s.flushed l c).line k).state ≠ .gathering
    rw [State.line_flushed]
    split
    · simp
    · next hne => exact h.resolve_left (Ne.symm hne)
  · rw [s.startFlush_other l c hg]
    rcases h with rfl | h
    · exact hg
    · exact h

theorem claimFold_state (p : LineId → Bool) (c : FlushCause) (ls : List LineId) (s : State) (k : LineId)
    (h : k ∈ ls ∧ p k = true ∨ (s.line k).state ≠ .gathering) :
    ((ls.foldl (fun t l => if p l then t.startFlush l c else t) s).line k).state ≠ .gathering := by
  induction ls generalizing s with
  | nil => exact h.resolve_left fun hk => absurd hk.1 List.not_mem_nil
  | cons l ls ih =>
    refine ih _ ?_
    by_cases hp : p l = true
    · simp only [hp, if_true]
      rcases h with ⟨hk, hpk⟩ | h
      · rcases List.mem_cons.mp hk with rfl | hk
        · exact .inr (s.startFlush_state k k c (.inl rfl))
        · exact .inl ⟨hk, hpk⟩
      · exact .inr (s.startFlush_state l k c (.inr h))
    · simp only [hp, Bool.false_eq_true, if_false]
      rcases h with ⟨hk, hpk⟩ | h
      · rcases List.mem_cons.mp hk with rfl | hk
        · exact absurd hpk hp
        · exact .inl ⟨hk, hpk⟩
      · exact .inr h

/-- A claim leaves no line that it names GATHERING (R45). -/
theorem State.claim_state (s : State) (p : Line → Bool) (c : FlushCause) {k : LineId} (hk : k ∈ s.gather.age)
    (hp : p (s.line k) = true) : ((s.claim p c).line k).state ≠ .gathering :=
  claimFold_state (fun l => p (s.line l)) c s.gather.age s k (.inl ⟨hk, hp⟩)

/-- A claim of a window's lines (R45). -/
theorem State.claim_window {s : State} (w : WindowId) (c : FlushCause) (hs : s.gatherLaw) :
    (∀ l, (s.claim (fun ln => ln.window == w) c).line l =
      if (s.line l).state = .gathering ∧ (s.line l).window = w then (s.line l).inFlush (s.win w) c else s.line l) ∧
    (s.claim (fun ln => ln.window == w) c).gather.age = s.gather.age.filter (fun l => (s.line l).window ≠ w) ∧
    (s.claim (fun ln => ln.window == w) c).gather.order =
      s.gather.order ++ s.gather.age.filter (fun l => (s.line l).window = w) := by
  obtain ⟨hline, hage, horder, -, -⟩ := s.claim_spec (fun ln => ln.window == w) c hs
  have hof (l : LineId) : ((s.line l).window == w) = decide ((s.line l).window = w) := beq_eq_decide _ _
  have hnot (l : LineId) : (!((s.line l).window == w)) = decide ((s.line l).window ≠ w) := by rw [hof, ← decide_not]
  refine ⟨fun l => (hline l).trans ?_, hage.trans (List.filter_congr fun l _ => hnot l),
    horder.trans (congrArg (s.gather.order ++ ·) (List.filter_congr fun l _ => hof l))⟩
  simp only [beq_iff_eq]
  by_cases hc : (s.line l).state = .gathering ∧ (s.line l).window = w
  · rw [if_pos hc, if_pos hc, hc.2]
  · rw [if_neg hc, if_neg hc]

theorem State.scanCandidate_lowest {s : State} {w : WindowId} (ha : (s.win w).state = .armed) (hp : (s.win w).pending = true)
    (hlow : ∀ v, v < w → ¬((s.win v).state = .armed ∧ (s.win v).pending = true)) : s.scanCandidate = some w := by
  rw [State.scanCandidate, allWindows, find?_finRange]
  exact ⟨by simp [ha, hp], fun v hv => by simpa using hlow v hv⟩

/-- Settles O34: the start of a scan, and of its reads. -/
theorem scanStarts : Obligations.ScanStarts := by
  refine fun s => ⟨fun w hidle hroom hr ha hp hlow => ?start, fun hs hw => ?reading⟩
  case start =>
    have hevent : s.scanStartEvent = some (s.scanBegin w) := by
      have hc : (s.scan.state == .idle && decide (s.scan.results.length < Config.resultPlaces) && !s.inSoftReset) = true := by
        simp only [hidle, hr, beq_self_eq_true, Bool.true_and, Bool.not_false, Bool.and_true, decide_eq_true_eq]
        exact hroom
      rw [State.scanStartEvent, if_pos hc, State.scanCandidate_lowest ha hp hlow, Option.map_some]
    let t := s.setWin w { s.win w with pending := false, dirty := false }
    let u := t.claim (fun ln => ln.window == w) .scan
    have hwin (v : WindowId) : u.win v = if w = v then { s.win w with pending := false, dirty := false } else s.win v := by
      rw [← s.win_setWin w v, State.win_congr (show u.windows = t.windows by simp [u])]
    refine ⟨s.scanBegin w, eventOutcome_some hevent, ?_, fun l => ?_, fun l hl hlw => ?_, fun hs => ?_, ?_, fun v hv => ?_, ?_⟩
    · have hscan : u.scan = s.scan := by simp [u, t]
      have hbegin : (s.scanBegin w).scan =
          { u.scan with
            state := .flushing, window := w, trigger := (s.win w).trigger, disturbed := false, crc := crcStart,
            wait := (s.scanBegin w).scan.wait, next := (s.win w).memLo, kept := [] } := rfl
      rw [hbegin, hscan]
      rfl
    · change l ∈ u.waitSet (fun ln => ln.window == w) ↔ (u.line l).state ≠ .free ∧ (u.line l).window = w
      simp [State.waitSet, allLines]
    · exact t.claim_state (fun ln => ln.window == w) .scan hl (beq_iff_eq.mpr hlw)
    · obtain ⟨hline, hage, horder⟩ := State.claim_window (s := t) w .scan hs
      refine ⟨fun l hg hlw => (hline l).trans ((if_pos ⟨hg, hlw⟩).trans ?_), fun l hc => (hline l).trans (if_neg hc), hage, horder⟩
      rw [s.win_setWin w w, if_pos rfl]
      rfl
    · exact (hwin w).trans (if_pos rfl)
    · exact (hwin v).trans (if_neg (Ne.symm hv))
    · have hkept : u.colour = s.colour ∧ u.mirror = s.mirror ∧ u.link = s.link ∧ u.faults = s.faults ∧ u.host = s.host := by
        simp [u, t]
      exact hkept
  case reading => exact eventOutcome_some (e := s.scanReadingEvent) (if_pos (by simp [hs, hw]))

end Sys2Proof.Machine
end

section
/-! PROOF. The actions that windows take: ARM and DISARM. -/

namespace Sys2Proof.Machine

/-! ### The validity checks (R21, Tables 1-2 and 11-7) -/

theorem byte_le_one : ∀ b : Byte, b.toNat ≤ 1 ↔ b = 0 ∨ b = 1 := by decide

theorem fmtOfCode_isSome : ∀ c : Byte, (fmtOfCode c).isSome = true ↔ c = 0 ∨ (c = 1 ∨ c = 2) ∨ c = 3 ∨ c = 4 := by decide

theorem Window.adaptive_iff (x : Window) : x.adaptive = true ↔ (x.format = 3 ∨ x.format = 4) ∧ x.tableMode = 1 := by
  simp only [Window.adaptive, Bool.and_eq_true, Bool.or_eq_true, beq_iff_eq]

/-- The end of a window's memory in each format. -/
theorem Window.memHi_format (x : Window) :
    (x.format = 0 → x.memHi = x.mbase.toNat + 3 * x.pixels.toNat) ∧
      (x.format = 1 ∨ x.format = 2 → x.memHi = x.mbase.toNat + 2 * x.pixels.toNat) ∧
      (x.format = 3 → x.memHi = x.mbase.toNat + x.pixels.toNat) ∧
      (x.format = 4 → x.memHi = x.mbase.toNat + x.pixels.toNat / 2) := by
  have hfmt : x.memHi = x.mbase.toNat + ((fmtOfCode x.format).getD .p24).windowBytes x.pixels.toNat := rfl
  refine ⟨fun h => ?_, fun h => ?_, fun h => ?_, fun h => ?_⟩
  · rw [hfmt, h]; rfl
  · rcases h with h | h <;> rw [hfmt, h] <;> rfl
  · rw [hfmt, h]; rfl
  · rw [hfmt, h]; rfl

theorem Window.valid_format (x : Window) :
    (x.memHi ≤ 4294967296 ∧ (fmtOfCode x.format).isSome = true) ↔
      (x.format = 0 ∧ x.mbase.toNat + 3 * x.pixels.toNat ≤ 4294967296 ∨
        (x.format = 1 ∨ x.format = 2) ∧ x.mbase.toNat + 2 * x.pixels.toNat ≤ 4294967296 ∨
        x.format = 3 ∧ x.mbase.toNat + x.pixels.toNat ≤ 4294967296 ∨
        x.format = 4 ∧ x.mbase.toNat + x.pixels.toNat / 2 ≤ 4294967296) := by
  obtain ⟨h0, h12, h3, h4⟩ := x.memHi_format
  rw [fmtOfCode_isSome]
  constructor
  · rintro ⟨hm, h | h | h | h⟩
    · exact .inl ⟨h, h0 h ▸ hm⟩
    · exact .inr (.inl ⟨h, h12 h ▸ hm⟩)
    · exact .inr (.inr (.inl ⟨h, h3 h ▸ hm⟩))
    · exact .inr (.inr (.inr ⟨h, h4 h ▸ hm⟩))
  · rintro (⟨h, hm⟩ | ⟨h, hm⟩ | ⟨h, hm⟩ | ⟨h, hm⟩)
    · exact ⟨(h0 h).symm ▸ hm, .inl h⟩
    · exact ⟨(h12 h).symm ▸ hm, .inr (.inl h)⟩
    · exact ⟨(h3 h).symm ▸ hm, .inr (.inr (.inl h))⟩
    · exact ⟨(h4 h).symm ▸ hm, .inr (.inr (.inr h))⟩

/-- An index of a fill entry is checked in the I4 format of an adaptive window. -/
theorem Window.valid_fill (x : Window) :
    (!(x.adaptive && x.format == 4) || decide (x.fillEntry.toNat ≤ 15)) = true ↔
      (x.format = 4 → x.tableMode = 1 → x.fillEntry.toNat ≤ 15) := by
  simp only [Bool.or_eq_true, Bool.not_eq_true', ← Bool.not_eq_true, Bool.and_eq_true, beq_iff_eq, decide_eq_true_eq,
    Window.adaptive_iff]
  constructor
  · rintro (h | h) hf ht
    · exact absurd ⟨⟨.inr hf, ht⟩, hf⟩ h
    · exact h
  · intro h
    by_cases hc : x.format = 4 ∧ x.tableMode = 1
    · exact .inr (h hc.1 hc.2)
    · exact .inl fun ha => hc ⟨ha.2, ha.1.2⟩

theorem Window.valid_iff (x : Window) :
    x.valid = true ↔
      64 ∣ x.hbase.toNat ∧ x.hbase.toNat + 4 * x.pixels.toNat ≤ 4294967296 ∧ 8 ∣ x.mbase.toNat ∧
        16 ≤ x.pixels.toNat ∧ x.pixels.toNat ≤ 4194304 ∧ 16 ∣ x.pixels.toNat ∧
        (x.format = 0 ∧ x.mbase.toNat + 3 * x.pixels.toNat ≤ 4294967296 ∨
          (x.format = 1 ∨ x.format = 2) ∧ x.mbase.toNat + 2 * x.pixels.toNat ≤ 4294967296 ∨
          x.format = 3 ∧ x.mbase.toNat + x.pixels.toNat ≤ 4294967296 ∨
          x.format = 4 ∧ x.mbase.toNat + x.pixels.toNat / 2 ≤ 4294967296) ∧
        (x.round = 0 ∨ x.round = 1) ∧ (x.fill = 0 ∨ x.fill = 1) ∧ (x.tableMode = 0 ∨ x.tableMode = 1) ∧
        (x.policy = 0 ∨ x.policy = 1) ∧ x.partition.toNat ≤ 15 ∧
        (x.format = 4 → x.tableMode = 1 → x.fillEntry.toNat ≤ 15) := by
  rw [← Window.valid_format, ← Window.valid_fill]
  simp only [Window.valid, Bool.and_eq_true, beq_iff_eq, decide_eq_true_eq, Nat.dvd_iff_mod_eq_zero, byte_le_one]
  constructor
  · rintro ⟨⟨⟨⟨⟨⟨⟨⟨⟨⟨⟨⟨⟨h1, h2⟩, h3⟩, h4⟩, h5⟩, h6⟩, h7⟩, h8⟩, h9⟩, h10⟩, h11⟩, h12⟩, h13⟩, h14⟩
    exact ⟨h1, h2, h3, h5, h6, h7, ⟨h4, h8⟩, h9, h10, h11, h12, h13, h14⟩
  · rintro ⟨h1, h2, h3, h5, h6, h7, ⟨h4, h8⟩, h9, h10, h11, h12, h13, h14⟩
    exact ⟨⟨⟨⟨⟨⟨⟨⟨⟨⟨⟨⟨⟨h1, h2⟩, h3⟩, h4⟩, h5⟩, h6⟩, h7⟩, h8⟩, h9⟩, h10⟩, h11⟩, h12⟩, h13⟩, h14⟩

theorem Window.fillEntryId_i8 {x : Window} (h : x.fmt = .i8) : x.fillEntryId = Fin.ofNat 256 x.fillEntry.toNat := by
  simp only [Window.fillEntryId, h]

theorem Window.fillEntryId_i4 {x : Window} (h : x.fmt = .i4) :
    x.fillEntryId = Fin.ofNat 256 (16 * x.partition.toNat + x.fillEntry.toNat) := by
  simp only [Window.fillEntryId, h]

/-- Settles O35: the rule of ARM, and its checks. -/
theorem armJudged : Obligations.ArmJudged := by
  refine ⟨fun s w ht => ?refused, fun s w ht hoff hv hm => ⟨fun ha => ?plain, fun ha he => ?adaptive⟩,
    fun x => ⟨fun h => Window.fillEntryId_i8 (x.fmt_i8.mpr h), fun h => Window.fillEntryId_i4 (x.fmt_i4.mpr h), x.adaptive_iff,
      x.valid_iff⟩, State.meetsOther_iff⟩
  case refused =>
    intro cmd
    have hcmd : cmd = .next (s.answer 1 (s.opened.judgeArm w)).settle := exec_arm ht w
    exact ⟨fun h => by rw [hcmd, State.judgeArm_busy (s := s.opened) h]; rfl,
      fun hoff hv => by rw [hcmd, State.judgeArm_invalid (s := s.opened) hoff hv]; rfl,
      fun hoff hv hm => by rw [hcmd, State.judgeArm_overlap (s := s.opened) hoff hv hm]; rfl,
      fun hoff hv hm ha he => by rw [hcmd, State.judgeArm_engineBusy (s := s.opened) hoff hv hm ha he]; rfl⟩
  case plain =>
    have hexec := exec_arm ht w
    rw [State.judgeArm_plain (s := s.opened) hoff hv hm ha, State.answer_accept] at hexec
    exact ⟨_, hexec, (s.win_setWin w w _).trans (if_pos rfl), fun v hne => (s.win_setWin w v _).trans (if_neg (Ne.symm hne)), rfl, rfl,
      rfl, rfl, rfl, rfl, rfl, rfl⟩
  case adaptive =>
    have hexec := exec_arm ht w
    rw [State.judgeArm_adaptive (s := s.opened) hoff hv hm ha he, State.answer_accept] at hexec
    exact ⟨_, hexec, (s.win_setWin w w _).trans (if_pos rfl), fun v hne => (s.win_setWin w v _).trans (if_neg (Ne.symm hne)), rfl, rfl,
      rfl, rfl, rfl, rfl, rfl, rfl⟩

/-! ### DISARM (R33 to R36, R135, R144) -/

/-- What every accepted DISARM clears (R135). -/
def Window.cleared (x : Window) : Window := { x with pending := false, timer := .idle }

section
variable {s : State} {w : WindowId}

theorem State.judgeDisarm_off (h : (s.win w).state = .off) : s.judgeDisarm w = .accept (s.disarmed w) := by
  simp only [State.judgeDisarm, h]

theorem State.judgeDisarm_arming (h : (s.win w).state = .arming) : s.judgeDisarm w = .accept ((s.disarmed w).abortFill w) := by
  simp only [State.judgeDisarm, h]

theorem State.judgeDisarm_draining (h : (s.win w).state = .draining) : s.judgeDisarm w = .refuse .busy := by
  simp only [State.judgeDisarm, h]

section
variable (h : (s.win w).state = .armed)
include h

theorem State.judgeDisarm_plain (ha : (s.win w).adaptive = false) : s.judgeDisarm w = .accept ((s.disarmed w).drain w) := by
  simp only [State.judgeDisarm, h, ha, Bool.not_false, if_true]

theorem State.judgeDisarm_engineBusy (ha : (s.win w).adaptive = true) (he : s.engine ≠ .idle) :
    s.judgeDisarm w = .refuse .engineBusy := by
  simp only [State.judgeDisarm, h, ha, Bool.not_true, Bool.false_eq_true, if_false]
  exact if_pos he

theorem State.judgeDisarm_release (ha : (s.win w).adaptive = true) (he : s.engine = .idle) :
    s.judgeDisarm w = .accept (((s.disarmed w).drain w).takeRelease w) := by
  simp only [State.judgeDisarm, h, ha, Bool.not_true, Bool.false_eq_true, if_false]
  exact if_neg (not_not.mpr he)

end

/-- A DISARM that ends no scan. -/
theorem State.disarmed_quiet (hn : ¬((s.scan.state = .flushing ∨ s.scan.state = .reading) ∧ s.scan.window = w)) :
    s.disarmed w = s.setWin w (s.win w).cleared := by
  rw [← ScanUnit.reserved_iff] at hn
  exact if_neg (by simpa using hn)

/-- A DISARM that ends the window's scan (R144). -/
theorem State.disarmed_scanned (hn : (s.scan.state = .flushing ∨ s.scan.state = .reading) ∧ s.scan.window = w) :
    s.disarmed w =
      { s.setWin w { (s.win w).cleared with epoch := (s.win w).epoch + 1 } with
        scan :=
          { s.scan with
            state := if s.link.outstanding.any Outstanding.isScan then .aborting else .idle
            wait := []
            kept := []
            results := s.scan.results ++
              [{ window := w, epoch := (s.win w).epoch + 1, crc := 0, status := .aborted, trigger := s.scan.trigger }] } } := by
  obtain ⟨hr, rfl⟩ := hn
  rw [← ScanUnit.reserved_iff] at hr
  refine (if_pos (by simpa using hr)).trans ?_
  refine (State.scanEnd_reserved (s := s.setWin s.scan.window (s.win s.scan.window).cleared) _ _ hr).trans ?_
  simp only [State.win_setWin, State.setWin_fields, if_true]
  simp only [State.setWin, Vector.set_set]
  rfl

end

/-- The aborted fill of a window (R33). -/
theorem State.abortFill_aborted {s : State} {f : Fill} {w : WindowId} (he : s.engine = .filling f) (hw : f.window = w)
    (hf : f.failed = none) :
    s.abortFill w = State.engineFinish { s with engine := .filling { f with aborted := true } } := by
  simp only [State.abortFill, he]
  exact if_pos ⟨hw, hf⟩

theorem State.abortFill_failed {s : State} {f : Fill} (w : WindowId) (he : s.engine = .filling f) (hf : f.failed ≠ none) :
    s.abortFill w = s := by
  simp only [State.abortFill, he]
  exact if_neg fun h => hf h.2

/-- The drain of a window (R35, R36, R57). -/
theorem State.drain_spec {s : State} (w : WindowId) (hs : s.gatherLaw) :
    (∀ v, (s.drain w).win v = if w = v then { s.win w with state := .draining } else s.win v) ∧
      ∀ l, (s.drain w).line l =
        if (s.line l).state = .gathering ∧ (s.line l).window = w then (s.line l).inFlush (s.win w) .disarm else s.line l := by
  refine ⟨fun v => ?_, fun l => ?_⟩
  · rw [← s.win_setWin w v { s.win w with state := .draining }]
    exact State.win_congr (by simp [State.drain, State.setWindowState]) v
  · refine ((State.claim_window (s := s.setWindowState w .draining) w .disarm hs).1 l).trans ?_
    rw [show (s.setWindowState w .draining).win w = _ from (s.win_setWin w w _).trans (if_pos rfl)]
    rfl

/-- Settles O36: the rule of DISARM in each state of the window. -/
theorem disarmByState : Obligations.DisarmByState := by
  intro s w ht cmd cleared waits scanned
  have hcmd : cmd = .next (s.answer 2 (s.opened.judgeDisarm w)).settle := exec_disarm ht w
  let d := s.opened.disarmed w
  have hquiet (hn : ¬scanned) : d = s.opened.setWin w cleared := State.disarmed_quiet (s := s.opened) hn
  refine ⟨fun h => ?draining, fun h ha he => ?engineBusy, fun h hn => ?off, fun h hor hs => ?armed, fun f h hn he hf => ?arming⟩
  case draining => rw [hcmd, State.judgeDisarm_draining (s := s.opened) h]; rfl
  case engineBusy => rw [hcmd, State.judgeDisarm_engineBusy (s := s.opened) h ha he]; rfl
  case off =>
    rw [hcmd, State.judgeDisarm_off (s := s.opened) h, show s.opened.disarmed w = _ from hquiet hn]
    rfl
  case armed =>
    have hscan (hc : scanned) : d = _ := State.disarmed_scanned (s := s.opened) hc
    have hgather : d.gather = s.gather := by simp [d, State.opened]
    have hdline (l : LineId) : d.line l = s.line l := State.line_congr (congrArg Gather.lines hgather) l
    have hdquiet (hn : ¬scanned) : d.win w = cleared ∧ d.scan = s.scan := by
      rw [hquiet hn]
      exact ⟨(s.win_setWin w w _).trans (if_pos rfl), rfl⟩
    have hdscan (hc : scanned) : d.win w = { cleared with epoch := (s.win w).epoch + 1 } := by
      rw [hscan hc]
      exact (s.win_setWin w w _).trans (if_pos rfl)
    have hdother (v : WindowId) (hv : v ≠ w) : d.win v = s.win v := by
      by_cases hc : scanned
      · rw [hscan hc]
        exact (s.win_setWin w v _).trans (if_neg (Ne.symm hv))
      · rw [hquiet hc]
        exact (s.win_setWin w v _).trans (if_neg (Ne.symm hv))
    have hdsame : (d.win w).mbase = (s.win w).mbase ∧
        ∀ ln : Line, ln.inFlush (d.win w) .disarm = ln.inFlush (s.win w) .disarm := by
      by_cases hc : scanned
      · rw [hdscan hc]
        exact ⟨rfl, fun ln => rfl⟩
      · rw [(hdquiet hc).1]
        exact ⟨rfl, fun ln => rfl⟩
    obtain ⟨hwin, hline⟩ := State.drain_spec (s := d) w (State.gatherLaw_congr (congrArg Gather.age hgather)
      (congrArg Gather.order hgather) (fun l => congrArg Line.state (hdline l)) hs)
    have hport : (d.drain w).port = s.opened.port := by simp [d]
    obtain ⟨u, hu, hwindows, hlines, hscanned, hfields⟩ : ∃ u : State, cmd = .next u.settle ∧ u.windows = (d.drain w).windows ∧
        u.gather = (d.drain w).gather ∧ u.scan = d.scan ∧ u.engine = (if (s.win w).adaptive then
          .releasing
            { window := w, reading := false, next := (s.win w).mbase.toNat, pointer := (s.win w).mbase.toNat, failed := none }
          else s.engine) ∧
        u.port = (s.withAcceptedAction 2).port ∧ u.colour = s.colour ∧ u.mirror = s.mirror ∧ u.link = s.link ∧
        u.faults = s.faults ∧ u.host = s.host := by
      cases ha : (s.win w).adaptive with
      | false =>
        rw [State.judgeDisarm_plain (s := s.opened) h ha] at hcmd
        refine ⟨_, hcmd, rfl, rfl, by simp [d], by simp [State.opened], ?_, by simp [State.opened]⟩
        rw [State.answer_accept, State.noteAction, hport]
        rfl
      | true =>
        have he := hor.resolve_left (by simp [ha])
        rw [State.judgeDisarm_release (s := s.opened) h ha he] at hcmd
        refine ⟨_, hcmd, rfl, rfl, by simp [d, State.takeRelease], ?_, ?_, by simp [State.takeRelease, State.opened]⟩
        · have hmem : ((d.drain w).win w).mbase = (s.win w).mbase := by
            rw [hwin w, if_pos rfl]
            exact hdsame.1
          rw [if_pos rfl, ← hmem]
          rfl
        · rw [State.answer_accept, State.noteAction, State.takeRelease, hport]
          rfl
    have huwin (v : WindowId) : u.win v = if w = v then { d.win w with state := .draining } else d.win v :=
      (State.win_congr hwindows v).trans (hwin v)
    have huline (l : LineId) : u.line l =
        if (s.line l).state = .gathering ∧ (s.line l).window = w then (s.line l).inFlush (s.win w) .disarm else s.line l := by
      rw [State.line_congr (congrArg Gather.lines hlines) l, hline l, hdline l, hdsame.2]
    refine ⟨u, hu, fun hn => ⟨?_, ?_⟩, fun hc => ⟨?_, ?_⟩, fun v hv => ?_, fun l hg hlw => ?_, fun l hc => ?_, hfields⟩
    · rw [huwin, if_pos rfl, (hdquiet hn).1]
    · rw [hscanned, (hdquiet hn).2]
    · rw [huwin, if_pos rfl, hdscan hc]
    · rw [hscanned, hscan hc]
      rfl
    · rw [huwin, if_neg (Ne.symm hv), hdother v hv]
    · rw [huline, if_pos ⟨hg, hlw⟩]
    · rw [huline, if_neg hc]
  case arming =>
    have harming : cmd = .next (s.answer 2 (.accept (d.abortFill w))).settle := by
      rw [hcmd, State.judgeDisarm_arming (s := s.opened) h]
    rw [hquiet hn] at harming
    have hwin : (s.opened.setWin w cleared).win w = cleared := (s.win_setWin w w _).trans (if_pos rfl)
    subst hf
    let g : State := { s.opened.setWin f.window cleared with engine := .filling { f with aborted := true } }
    have habort (hfail : f.failed = none) : (s.opened.setWin f.window cleared).abortFill f.window = g.engineFinish :=
      State.abortFill_aborted (s := s.opened.setWin f.window cleared) he rfl hfail
    obtain ⟨hwait, hfill, -⟩ := g.engineFinish_ends
    refine ⟨fun hfail hw => ?_, fun hfail hw => ?_, fun hfail => ?_⟩
    · rw [harming, habort hfail, hwait (.inl hw)]
      rfl
    · rw [harming, habort hfail, (hfill { f with aborted := true } hw rfl).2.1 hfail rfl]
      simp only [show g.win f.window = cleared from hwin]
      simp only [g, State.setWin, Vector.set_set]
      rfl
    · rw [harming, State.abortFill_failed (s := s.opened.setWin f.window cleared) f.window he hfail]
      rfl

end Sys2Proof.Machine
end

section
/-! PROOF. The other actions: FLUSH_ALL, the mirror actions, RECOUNT, the pops, SOFT_RESET, and what refuses an action. -/

namespace Sys2Proof.Machine

/-! ### FLUSH_ALL (R60, R169) -/

/-- Settles O37: FLUSH_ALL, and its completion. -/
theorem flushAllRuns : Obligations.FlushAllRuns := by
  refine ⟨fun s v ht hs => ?runs, fun s hr => ?complete⟩
  case runs =>
    obtain ⟨hline, hage, horder, -, -⟩ := State.claim_spec (s := s.opened) (fun _ => true) .flushAll hs
    have hwait (l : LineId) : l ∈ (s.opened.claim (fun _ => true) .flushAll).waitSet (fun _ => true) ↔ _ :=
      State.mem_waitSet_claim (s := s.opened) hs (fun _ _ => rfl) l
    refine ⟨_, exec_flushAll ht v, fun l hg => (hline l).trans (if_pos ⟨hg, rfl⟩), fun l hg => (hline l).trans (if_neg fun h => hg h.1),
      hage.trans (by simp), horder.trans ?_, ⟨_, rfl, fun l => (hwait l).trans (by simp; rfl)⟩, ?_⟩
    · simp [State.opened]
    · simp [State.judgeFlushAll, State.opened]
  case complete => exact eventOutcome_some (e := s.flushAllEvent) (if_pos (by simp [hr]))

/-! ### The mirror actions and RECOUNT (R99, R100, R108, R115, R116) -/

/-- Settles O38: the rules of MIRROR_ATTACH, MIRROR_DETACH and RECOUNT. -/
theorem mirrorAndCountActions : Obligations.MirrorAndCountActions := by
  intro s v ht
  refine ⟨fun hl => ?_, fun hl => ?_, fun hl => ?_, fun hl => ?_, fun hw => ?_, fun hw => ?_⟩
  · rw [exec_mirrorAttach ht v, show s.opened.judgeAttach = _ from if_neg (not_not.mpr hl)]
    rfl
  · rw [exec_mirrorAttach ht v, show s.opened.judgeAttach = _ from if_pos hl]
    rfl
  · rw [exec_mirrorDetach ht v, show s.opened.judgeDetach = _ from if_pos hl]
    rfl
  · rw [exec_mirrorDetach ht v, show s.opened.judgeDetach = _ from if_neg hl]
    rfl
  · have hany : allWindows.any (fun w => (s.opened.win w).adaptive && (s.opened.win w).inUse) = true := by
      obtain ⟨w, ha, ho⟩ := hw
      exact List.any_eq_true.mpr ⟨w, List.mem_finRange w, by
        rw [show s.opened.win w = s.win w from rfl, ha, Window.inUse, Bool.true_and]
        simpa using ho⟩
    rw [exec_recount ht v, show s.opened.judgeRecount = _ from if_pos hany]
    rfl
  · have hany : ¬allWindows.any (fun w => (s.opened.win w).adaptive && (s.opened.win w).inUse) = true := by
      rw [List.any_eq_true]
      rintro ⟨w, -, h⟩
      rw [show s.opened.win w = s.win w from rfl, Bool.and_eq_true, Window.inUse, bne_iff_ne] at h
      exact h.2 (hw w h.1)
    have hexec := exec_recount ht v
    rw [show s.opened.judgeRecount = _ from if_neg hany, State.answer_accept] at hexec
    exact ⟨_, hexec, fun e => s.colour.clearCounts_entry e, rfl, rfl, rfl, rfl, rfl, rfl, rfl, rfl⟩

/-! ### The pops, and ATTN (R146, R176, R177, R180) -/

theorem FaultQueue.pop_empty {q : FaultQueue} (h : q.records = []) : q.pop = q := by
  simp only [FaultQueue.pop, h]

theorem FaultQueue.pop_head {q : FaultQueue} {r : FaultRecord} {rest : List FaultRecord} (h : q.records = r :: rest) :
    q.pop = { records := rest, overflow := if rest = [] then false else q.overflow } := by
  cases rest <;> simp [FaultQueue.pop, h]

theorem State.attn_iff (s : State) : s.attn = true ↔
    s.port.settings.enables.getLsbD 0 = true ∧ s.faults.records ≠ [] ∨
    s.port.settings.enables.getLsbD 1 = true ∧ s.scan.results ≠ [] ∨
    s.port.settings.enables.getLsbD 2 = true ∧ s.mirror.lost = true ∨
    s.port.settings.enables.getLsbD 3 = true ∧ s.colour.suspect = true := by
  simp only [State.attn, Bool.or_eq_true, Bool.and_eq_true, Bool.not_eq_true', ← Bool.not_eq_true, List.isEmpty_iff, or_assoc, ne_eq]

/-- Settles O39: the pops, the fault queue, and ATTN. -/
theorem recordsAndAttention : Obligations.RecordsAndAttention := by
  refine ⟨fun s v ht => ?pops, fun q r => ⟨fun h => if_pos h, fun h => if_neg (Nat.not_lt.mpr h)⟩, State.attn_iff⟩
  case pops =>
    have hfault : exec (.faultPop v) s = .next (State.settle { s.withAcceptedAction 8 with faults := s.faults.pop }) :=
      exec_faultPop ht v
    have hresult : exec (.resultPop v) s =
        .next (State.settle { s.withAcceptedAction 9 with scan := { s.scan with results := s.scan.results.tail } }) :=
      exec_resultPop ht v
    refine ⟨fun h => ?_, fun r rest h => ?_, fun h => ?_, fun r rest h => ?_⟩
    · rw [hfault, FaultQueue.pop_empty h]
      rfl
    · rw [hfault, FaultQueue.pop_head h]
    · rw [hresult, h, List.tail_nil, ← h]
      rfl
    · rw [hresult, h, List.tail_cons]

/-! ### SOFT_RESET (R158, R170, R172) -/

/-- Settles O40: the steps of a soft reset. -/
theorem softResetSteps : Obligations.SoftResetSteps := by
  refine ⟨fun s v ht => ?begins, fun s hr ho => ?ends⟩
  case begins =>
    refine ⟨_, exec_softReset ht v, rfl, rfl, fun l => s.softResetBegin_line l, rfl, rfl, rfl, rfl, rfl, fun w => ?_, rfl, rfl, rfl, rfl,
      rfl, rfl⟩
    exact Vector.getElem_map ..
  case ends =>
    have hevent : s.softResetEvent = some s.softResetEnd := if_pos (by simp [State.inSoftReset, hr, ho])
    refine ⟨_, eventOutcome_some hevent, fun w => Vector.getElem_map .., fun e => s.colour.clearCounts_entry e, rfl, rfl, rfl, rfl, rfl,
      rfl, rfl, rfl, rfl, rfl, rfl, rfl, rfl⟩

end Sys2Proof.Machine
end

section
/-! PROOF. Management bytes: the stream that a byte belongs to, and what SDO carries (Chapters 9 and 11). -/

namespace Sys2Proof.Machine

/-! ### Regions (Table 9-2) -/

theorem Region.contains_iff (r : Region) (a : Half) : r.contains a = true ↔ r.base ≤ a.toNat ∧ a.toNat < r.base + r.size := by
  rw [Region.contains, Bool.and_eq_true, decide_eq_true_eq, decide_eq_true_eq]

theorem Region.not_contains_iff (r : Region) (a : Half) :
    r.contains a = false ↔ a.toNat < r.base ∨ r.base + r.size ≤ a.toNat := by
  rw [← Bool.not_eq_true, r.contains_iff]
  omega

theorem mem_allRegions (r : Region) : r ∈ allRegions := by
  cases r <;> decide

/-- The regions lie apart (Table 9-2). -/
theorem Region.apart {r q : Region} (h : r ≠ q) : r.base + r.size ≤ q.base ∨ q.base + q.size ≤ r.base := by
  have hall : ∀ r ∈ allRegions, ∀ q ∈ allRegions, r ≠ q → r.base + r.size ≤ q.base ∨ q.base + q.size ≤ r.base := by decide
  exact hall r (mem_allRegions r) q (mem_allRegions q) h

theorem Region.eq_of_contains {r q : Region} {a : Half} (hr : r.contains a = true) (hq : q.contains a = true) : r = q := by
  rw [Region.contains_iff] at hr hq
  by_contra hne
  have := Region.apart hne
  omega

theorem regionOf_iff (a : Half) (r : Region) : regionOf a = some r ↔ r.contains a = true := by
  constructor
  · exact fun h => List.find?_some (p := fun q : Region => q.contains a) h
  · intro hr
    cases hf : regionOf a with
    | none => exact absurd hr (List.find?_eq_none.mp hf r (mem_allRegions r))
    | some q => rw [Region.eq_of_contains (List.find?_some (p := fun q : Region => q.contains a) hf) hr]

/-! ### The stream of a data byte (R161; log entry 11) -/

/-- The state with this data stream open, and with what SDO has carried in its transaction. -/
def State.streaming (s : State) (t : Stream) (o : List Byte) : State :=
  { s with port := { s.port with txn := .data t }, out := { s.out with sdo := some o } }

/-- The data byte at address a belongs to stream t, with SDO having carried `o`: it is the next of the open stream, or it begins a
transaction. -/
def State.carries (s : State) (write : Bool) (a : Half) (t : Stream) (o : List Byte) : Prop :=
  s.port.txn = .data t ∧ t.write = write ∧ t.next = a ∧ s.out.sdo = some o ∨
    s.port.txn = .none ∧ t = Stream.start write a ∧ o = headerBytes write

theorem Stream.start_mapped {a : Half} {r : Region} (write : Bool) (hr : regionOf a = some r) :
    Stream.start write a = { write := write, region := some r, next := a, ended := false, staged := [], capture := none } := by
  rw [Stream.start, hr]

section
variable {s : State} {write : Bool} {a : Half} {t : Stream} {o : List Byte} (h : s.carries write a t o)
include h

theorem State.not_void_of_carries : s.port.txn ≠ .void := by
  obtain ⟨h, -⟩ | ⟨h, -⟩ := h <;> simp [h]

theorem streamFor_of_carries : streamFor s.port.txn write a = t := by
  obtain ⟨htxn, hw, hn, -⟩ | ⟨htxn, ht, -⟩ := h
  · simp [streamFor, continuedStream, htxn, hw, hn]
  · simp [streamFor, continuedStream, htxn, ht]

theorem State.openByte_of_carries (x : Stream) : (s.openByte write a).setTxn (.data x) = s.streaming x o := by
  obtain ⟨htxn, hw, hn, ho⟩ | ⟨htxn, -, ho⟩ := h
  · have hout : { s.out with sdo := some o } = s.out := by rw [← ho]
    rw [State.openByte, if_pos (by simp [continuedStream, htxn, hw, hn]), State.streaming, hout]
    rfl
  · rw [State.openByte, if_neg (by simp [continuedStream, htxn]), ho]
    rfl

end

section
variable {s : State} {a : Half} {v : Byte} {t : Stream} {o : List Byte}

theorem State.writeByte_carried (h : s.carries true a t o) : s.writeByte a v =
    (s.streaming { t with next := a + 1 } (o ++ [0])).writeStream { t with next := a + 1 } a v := by
  rw [State.writeByte, if_neg (State.not_void_of_carries h), streamFor_of_carries h]
  exact congrArg (fun x : State => (x.shiftOut 0).writeStream { t with next := a + 1 } a v)
    (State.openByte_of_carries h { t with next := a + 1 })

theorem State.readByte_carried (h : s.carries false a t o) : s.readByte a =
    (s.streaming { t with next := a + 1 } o).readStream { t with next := a + 1 } a := by
  rw [State.readByte, if_neg (State.not_void_of_carries h), streamFor_of_carries h]
  exact congrArg (fun x : State => x.readStream { t with next := a + 1 } a) (State.openByte_of_carries h { t with next := a + 1 })

theorem State.carries_open (htxn : s.port.txn = .data t) (ho : s.out.sdo = some o) : s.carries t.write t.next t o :=
  .inl ⟨htxn, rfl, rfl, ho⟩

theorem State.carries_first (htxn : s.port.txn = .none) (write : Bool) (a : Half) :
    s.carries write a (Stream.start write a) (headerBytes write) :=
  .inr ⟨htxn, rfl, rfl⟩

end

/-! ### Written and read bytes in a region -/

section
variable {s : State} {r : Region} {a : Half} {t : Stream} {o : List Byte}

theorem State.carries_of_writesAt (h : s.writesAt r a t o) : s.carries true a t o ∧ t.region = some r ∧ t.ended = false := by
  obtain ⟨htxn, hw, hn, hr, he, ho⟩ | ⟨htxn, hr, ho, ht⟩ := h
  · exact ⟨.inl ⟨htxn, hw, hn, ho⟩, hr, he⟩
  · exact ⟨.inr ⟨htxn, ht.trans (Stream.start_mapped true hr).symm, ho⟩, by rw [ht], by rw [ht]⟩

theorem State.carries_of_readsAt (h : s.readsAt r a t o) :
    s.carries false a t o ∧ t.region = some r ∧ t.ended = false ∧ r.contains a = true := by
  obtain ⟨htxn, hw, hn, hr, he, hlo, hhi, ho⟩ | ⟨htxn, hr, ho, ht⟩ := h
  · exact ⟨.inl ⟨htxn, hw, hn, ho⟩, hr, he, (r.contains_iff a).mpr ⟨hlo, hhi⟩⟩
  · exact ⟨.inr ⟨htxn, ht.trans (Stream.start_mapped false hr).symm, ho⟩, by rw [ht], by rw [ht], (regionOf_iff a r).mp hr⟩

/-- A written byte within its stream's region (R162, R163). -/
theorem State.writeByte_within {v : Byte} (h : s.writesAt r a t o) (hc : r.contains a = true) : s.writeByte a v =
    (s.streaming { t with next := a + 1 } (o ++ [0])).writeWithin { t with next := a + 1 } r a v := by
  obtain ⟨hcar, hr, he⟩ := State.carries_of_writesAt h
  simp only [State.writeByte_carried hcar, State.writeStream, hr, he, hc, Bool.false_eq_true, if_false, if_true]

/-- A read byte within its stream's region (R162, R164). -/
theorem State.readByte_within (h : s.readsAt r a t o) : s.readByte a =
    (s.streaming { t with next := a + 1 } o).readWithin { t with next := a + 1 } r a := by
  obtain ⟨hcar, hr, he, hc⟩ := State.carries_of_readsAt h
  simp only [State.readByte_carried hcar, State.readStream, hr, he, hc, Bool.false_eq_true, if_false, if_true]

end

/-! ### Void transactions (R159) -/

section
variable {s : State} (hv : s.port.txn = .void)
include hv

theorem State.writeByte_void (a : Half) (v : Byte) : s.writeByte a v = s.shiftOut 0 := by
  rw [State.writeByte, if_pos hv]

theorem State.readByte_void (a : Half) : s.readByte a = s.shiftOut 0 := by
  rw [State.readByte, if_pos hv]

theorem State.actionCommand_void (code v : Byte) : s.actionCommand code v = s.shiftOut 0 := by
  rw [State.actionCommand, if_pos hv]

theorem exec_writesByte_void {c : Instr} (hc : writesByte c = true) : exec c s = .next (s.shiftOut 0).settle := by
  cases c
  case windowFieldCommit w f v => exact congrArg (fun x : State => Host.Outcome.next x.settle) (State.writeByte_void hv _ v)
  case entryCommit e v => exact congrArg (fun x : State => Host.Outcome.next x.settle) (State.writeByte_void hv _ v)
  case globalWrite k v => exact congrArg (fun x : State => Host.Outcome.next x.settle) (State.writeByte_void hv _ v)
  case registerWrite a v => exact congrArg (fun x : State => Host.Outcome.next x.settle) (State.writeByte_void hv a v)
  all_goals cases hc

end

/-- An action row is the action command of its code. -/
theorem exec_actionRow {v : Byte} {p : Byte × Instr} (hp : p ∈ actionRows v) (s : State) :
    exec p.2 s = .next (s.actionCommand p.1 v).settle := by
  simp only [actionRows, List.mem_cons, List.not_mem_nil, or_false] at hp
  obtain rfl | rfl | rfl | rfl | rfl | rfl | rfl | rfl | rfl | rfl := hp <;> rfl

theorem State.shiftOut_eq {s : State} {o : List Byte} (v : Byte) (ho : s.out.sdo = some o) :
    s.shiftOut v = { s with out := { s.out with sdo := some (o ++ [v]) } } := by
  rw [State.shiftOut, ho]
  rfl

/-- Settles O47: how transactions begin and end, and the bytes of a void one. -/
theorem transactionsBeginAndEnd : Obligations.TransactionsBeginAndEnd := by
  intro s
  refine ⟨fun k h3A h3B => ?_, fun o c hv ho hc => ?_, fun o a c hv ho hc => ?_, rfl⟩
  · have hvoid : voidKind k = true := by
      rw [voidKind, Bool.and_eq_true, bne_iff_ne, bne_iff_ne]
      exact ⟨h3A, h3B⟩
    exact congrArg Host.Outcome.next (if_pos hvoid)
  · rw [← State.shiftOut_eq 0 ho]
    obtain hc | ⟨v, hc⟩ := hc
    · exact exec_writesByte_void hv hc
    · obtain ⟨p, hp, rfl⟩ := List.mem_map.mp hc
      rw [exec_actionRow hp, State.actionCommand_void hv]
  · rw [← State.shiftOut_eq 0 ho, ← State.readByte_void hv a]
    obtain rfl | rfl := hc <;> rfl

end Sys2Proof.Machine
end

section
/-! PROOF. The bytes of the regions (Tables 11-5 to 11-9). -/

namespace Sys2Proof.Machine

/-! ### The bytes of an item -/

theorem bytesOf_two (n : Nat) : bytesOf 2 n = [BitVec.ofNat 8 n, BitVec.ofNat 8 (n / 256)] := by
  simp [bytesOf, List.range_succ]

theorem bytesOf_three (n : Nat) : bytesOf 3 n = [BitVec.ofNat 8 n, BitVec.ofNat 8 (n / 256), BitVec.ofNat 8 (n / 65536)] := by
  simp [bytesOf, List.range_succ]

theorem bytesOf_four (n : Nat) : bytesOf 4 n =
    [BitVec.ofNat 8 n, BitVec.ofNat 8 (n / 256), BitVec.ofNat 8 (n / 65536), BitVec.ofNat 8 (n / 16777216)] := by
  simp [bytesOf, List.range_succ]

theorem bytesOf_one_byte (b : Byte) : bytesOf 1 b.toNat = [b] := by
  simp [bytesOf, List.range_succ]

/-- The bytes at the first n places of a record: its own, then 00h. -/
theorem range_map_getD (l : List Byte) {n : Nat} (h : l.length ≤ n) :
    (List.range n).map (fun i => l.getD i 0) = l ++ List.replicate (n - l.length) 0 := by
  refine List.ext_getElem (by simp; omega) fun i hi _ => ?_
  by_cases hl : i < l.length
  · simp [hl]
  · simp [hl, List.getElem_append_right (Nat.not_lt.mp hl)]

theorem Window.bytes_eq (x : Window) : x.bytes =
    [BitVec.ofNat 8 x.hbase.toNat, BitVec.ofNat 8 (x.hbase.toNat / 256), BitVec.ofNat 8 (x.hbase.toNat / 65536),
      BitVec.ofNat 8 (x.hbase.toNat / 16777216), BitVec.ofNat 8 x.mbase.toNat, BitVec.ofNat 8 (x.mbase.toNat / 256),
      BitVec.ofNat 8 (x.mbase.toNat / 65536), BitVec.ofNat 8 (x.mbase.toNat / 16777216), BitVec.ofNat 8 x.pixels.toNat,
      BitVec.ofNat 8 (x.pixels.toNat / 256), BitVec.ofNat 8 (x.pixels.toNat / 65536), x.format, x.round, x.fill, x.spare,
      x.tableMode, x.policy, x.partition, x.fillEntry, BitVec.ofNat 8 x.quiet.toNat, BitVec.ofNat 8 (x.quiet.toNat / 256),
      windowCode x.state, BitVec.ofNat 8 x.epoch.toNat, BitVec.ofNat 8 (x.epoch.toNat / 256), flagByte x.dirty,
      flagByte x.pending] := by
  simp only [Window.bytes, allFields, List.flatMap_cons, List.flatMap_nil, fieldBytes, Window.getField, bytesOf_four, bytesOf_three,
    bytesOf_two, bytesOf_one_byte]
  rfl

/-! ### The bytes of a region -/

section
variable (s : State)

theorem State.regionByte_windows (w : WindowId) {i : Nat} (hi : i < 32) :
    s.regionByte .windows (32 * w.val + i) = (s.win w).bytes.getD i 0 := by
  have hw : Fin.ofNat 8 ((32 * w.val + i) / 32) = w := Fin.ext (by simp only [Fin.ofNat]; omega)
  rw [State.regionByte, hw, show (32 * w.val + i) % 32 = i by omega]

theorem ofNat_entry (e : EntryId) {i : Nat} (hi : i < 4) : Fin.ofNat 256 ((4 * e.val + i) / 4) = e :=
  Fin.ext (by simp only [Fin.ofNat]; omega)

theorem State.regionByte_entries (e : EntryId) {i : Nat} (hi : i < 4) :
    s.regionByte .entries (4 * e.val + i) = (s.entry e).bytes.getD i 0 := by
  rw [State.regionByte, ofNat_entry e hi, show (4 * e.val + i) % 4 = i by omega]

theorem State.regionByte_counts (e : EntryId) {i : Nat} (hi : i < 4) :
    s.regionByte .counts (4 * e.val + i) = (bytesOf 4 (s.entry e).count).getD i 0 := by
  rw [State.regionByte, ofNat_entry e hi, show (4 * e.val + i) % 4 = i by omega]

/-- The first n bytes of an item at an offset, in a region where they are those of a record. -/
theorem State.read_record {r : Region} {first n : Nat} {l : List Byte} (hl : l.length ≤ n)
    (h : ∀ i, i < n → s.regionByte r (first + i) = l.getD i 0) :
    (List.range n).map (fun i => s.regionByte r (first + i)) = l ++ List.replicate (n - l.length) 0 := by
  rw [← range_map_getD l hl]
  exact List.map_congr_left fun i hi => h i (List.mem_range.mp hi)

theorem State.read_first {r : Region} {n : Nat} {l : List Byte} (hl : l.length ≤ n) (h : ∀ i, s.regionByte r i = l.getD i 0) :
    (List.range n).map (fun i => s.regionByte r (0 + i)) = l ++ List.replicate (n - l.length) 0 :=
  s.read_record hl fun i _ => by rw [Nat.zero_add, h]

theorem State.headBytes_faults {r : FaultRecord} {rest : List FaultRecord} (h : s.faults.records = r :: rest) :
    s.faults.headBytes =
      [faultCode r.cause,
        flagByte r.window.isSome ||| (flagByte r.addr.isSome <<< 1) ||| (flagByte r.entry.isSome <<< 2) |||
          (flagByte r.flush.isSome <<< 3),
        BitVec.ofNat 8 ((r.window.map Fin.val).getD 0), BitVec.ofNat 8 ((r.entry.map Fin.val).getD 0)] ++
        bytesOf 4 ((r.addr.map BitVec.toNat).getD 0) ++ [(r.flush.map flushCode).getD 0] ++ List.replicate 7 0 := by
  rw [FaultQueue.headBytes, h]

theorem State.headBytes_results {r : ResultRecord} {rest : List ResultRecord} (h : s.scan.results = r :: rest) :
    s.scan.headBytes =
      [statusCode r.status, BitVec.ofNat 8 r.window.val, triggerCode r.trigger, 0] ++ bytesOf 2 r.epoch.toNat ++ [0, 0] ++
        bytesOf 4 r.crc.toNat ++ List.replicate 4 0 := by
  rw [ScanUnit.headBytes, h]

end

/-- The flags byte of a fault record: one bit for each field that is present (Table 11-9). -/
theorem flagBits_eq : ∀ w a e f : Bool,
    flagByte w ||| (flagByte a <<< 1) ||| (flagByte e <<< 2) ||| (flagByte f <<< 3) =
      BitVec.ofNat 8 ((if w then 1 else 0) + (if a then 2 else 0) + (if e then 4 else 0) + (if f then 8 else 0)) := by
  decide

/-- Settles O46: what the bytes of each region read as, and the codes. -/
theorem regionBytes : Obligations.RegionBytes := by
  refine ⟨fun s => ?regions, rfl, fun a r => ?place, rfl, ?codes⟩
  case place => rw [regionOf_iff, Region.contains_iff]
  case codes =>
    refine ⟨fun r => ?_, fun r c h => ?_, ⟨rfl, rfl⟩, rfl, rfl, by decide⟩
    · simp [HostResponse.code]
    · simp [HostResponse.code, h]
  case regions =>
    intro read byte flag
    refine ⟨rfl, ?_, rfl, rfl, ?_, fun w => ?_, fun e => ⟨?_, ?_⟩, fun h => ?_, fun r rest h => ?_, fun h => ?_, fun r rest h => ?_⟩
    · refine (s.read_first (r := .global) (l := s.port.settings.bytes) (by simp [Settings.bytes]) fun _ => rfl).trans ?_
      have hen : s.port.settings.enables.setWidth 8 = byte s.port.settings.enables.toNat := by simp [byte]
      rw [Settings.bytes, hen]
      rfl
    · refine (s.read_first (r := .status) (l := s.statusBytes) (by simp [State.statusBytes, LastRefusal.bytes, bytesOf_two])
        fun _ => rfl).trans ?_
      rw [State.statusBytes, LastRefusal.bytes, bytesOf_two]
      rfl
    · refine (s.read_record (r := .windows) (by simp [Window.bytes_eq]) fun i hi => s.regionByte_windows w hi).trans ?_
      rw [Window.bytes_eq]
      rfl
    · exact s.read_record (r := .entries) (Nat.le_refl 4) fun i hi => s.regionByte_entries e hi
    · refine (s.read_record (r := .counts) (by simp [bytesOf]) fun i hi => s.regionByte_counts e hi).trans ?_
      rw [bytesOf_four]
      rfl
    · refine (s.read_first (r := .faultHead) (l := List.replicate 16 0) (Nat.le_refl 16) fun _ => ?_)
      rw [State.regionByte, FaultQueue.headBytes, h]
    · intro a
      refine (s.read_first (r := .faultHead) (l := s.faults.headBytes) (by simp [s.headBytes_faults h, bytesOf_four])
        fun _ => rfl).trans ?_
      rw [s.headBytes_faults h, bytesOf_four, flagBits_eq]
      rfl
    · refine (s.read_first (r := .resultHead) (l := List.replicate 16 0) (Nat.le_refl 16) fun _ => ?_)
      rw [State.regionByte, ScanUnit.headBytes, h]
    · refine (s.read_first (r := .resultHead) (l := s.scan.headBytes) (by simp [s.headBytes_results h, bytesOf_four, bytesOf_two])
        fun _ => rfl).trans ?_
      rw [s.headBytes_results h, bytesOf_four, bytesOf_two]
      rfl

end Sys2Proof.Machine
end

section
/-! PROOF. Read bytes and captures (R161, R162, R164). -/

namespace Sys2Proof.Machine

/-! ### The open stream of a state -/

section
variable (s : State) (t : Stream) (o : List Byte)

@[simp] theorem State.streaming_shiftOut (v : Byte) : (s.streaming t o).shiftOut v = s.streaming t (o ++ [v]) := rfl

@[simp] theorem State.streaming_setTxn (x : Stream) : (s.streaming t o).setTxn (.data x) = s.streaming x o := rfl

@[simp] theorem State.streaming_regionByte (r : Region) (off : Nat) : (s.streaming t o).regionByte r off = s.regionByte r off := rfl

end

/-! ### Captured items (R164) -/

section
variable (a : Half)

theorem captureItem_counts : captureItem .counts a = some (BitVec.ofNat 16 (0x0800 + (a.toNat - 0x0800) / 4 * 4), 4) := rfl

theorem captureItem_windows : captureItem .windows a =
    if (a.toNat - 0x0100) % 32 = 0x16 ∨ (a.toNat - 0x0100) % 32 = 0x17 then
      some (BitVec.ofNat 16 (0x0100 + (a.toNat - 0x0100) / 32 * 32 + 0x16), 2)
    else none := rfl

theorem captureItem_status : captureItem .status a =
    if 0x0B ≤ a.toNat - 0x0030 ∧ a.toNat - 0x0030 ≤ 0x0E then some (0x003B, 4) else none := rfl

end

theorem captureItem_eq_none {r : Region} {a : Half} (hc : r.contains a = true)
    (h : ∀ b n, isCaptured r b n → ¬(b ≤ a.toNat ∧ a.toNat < b + n)) : captureItem r a = none := by
  rw [Region.contains_iff] at hc
  cases r
  case counts =>
    simp only [Region.base, Region.size] at hc
    have hitem : isCaptured .counts (0x0800 + 4 * ((a.toNat - 0x0800) / 4)) 4 :=
      .inl ⟨rfl, rfl, ⟨(a.toNat - 0x0800) / 4, by omega⟩, rfl⟩
    exact absurd ⟨by omega, by omega⟩ (h _ _ hitem)
  case windows =>
    simp only [Region.base, Region.size] at hc
    have hitem : isCaptured .windows (0x0116 + 32 * ((a.toNat - 0x0100) / 32)) 2 :=
      .inr (.inl ⟨rfl, rfl, ⟨(a.toNat - 0x0100) / 32, by omega⟩, rfl⟩)
    have := h _ _ hitem
    rw [captureItem_windows, if_neg (by omega)]
  case status =>
    have := h 0x003B 4 (.inr (.inr (.inl ⟨rfl, rfl, rfl⟩)))
    rw [captureItem_status, if_neg (by omega)]
  case faultHead => exact absurd hc (h 0x0C00 16 (.inr (.inr (.inr (.inl ⟨rfl, rfl, rfl⟩)))))
  case resultHead => exact absurd hc (h 0x0C10 16 (.inr (.inr (.inr (.inr ⟨rfl, rfl, rfl⟩)))))
  all_goals rfl

theorem captureItem_eq_some {r : Region} {a : Half} {b n : Nat} (h : isCaptured r b n) (hb : b ≤ a.toNat) (hn : a.toNat < b + n) :
    captureItem r a = some (BitVec.ofNat 16 b, n) := by
  obtain ⟨rfl, rfl, e, rfl⟩ | ⟨rfl, rfl, w, rfl⟩ | ⟨rfl, rfl, rfl⟩ | ⟨rfl, rfl, rfl⟩ | ⟨rfl, rfl, rfl⟩ := h
  · rw [captureItem_counts, show 0x0800 + (a.toNat - 0x0800) / 4 * 4 = 0x0800 + 4 * e.val by omega]
  · rw [captureItem_windows, if_pos (by omega), show 0x0100 + (a.toNat - 0x0100) / 32 * 32 + 0x16 = 0x0116 + 32 * w.val by omega]
  · exact if_pos (show 0x0B ≤ a.toNat - 0x0030 ∧ a.toNat - 0x0030 ≤ 0x0E by omega)
  · rfl
  · rfl

/-- A captured item lies within the addresses of its region (Tables 9-2, 11-6 to 11-9). -/
theorem lt_of_isCaptured {r : Region} {b n : Nat} (h : isCaptured r b n) : b < 65536 := by
  obtain ⟨-, -, e, rfl⟩ | ⟨-, -, w, rfl⟩ | ⟨-, -, rfl⟩ | ⟨-, -, rfl⟩ | ⟨-, -, rfl⟩ := h <;> omega

theorem pos_of_isCaptured {r : Region} {b n : Nat} (h : isCaptured r b n) : 0 < n := by
  obtain ⟨-, rfl, -⟩ | ⟨-, rfl, -⟩ | ⟨-, rfl, -⟩ | ⟨-, rfl, -⟩ | ⟨-, rfl, -⟩ := h <;> omega

theorem captured_of_base {x : Option Capture} {k : Capture} {b i : Nat} {a : Half} (hx : x = some k) (hb : b < 65536)
    (hk : k.base.toNat = b) (ha : a.toNat = b + i) : captured x (BitVec.ofNat 16 b) a = k.bytes[i]? := by
  have hbase : k.base = BitVec.ofNat 16 b := BitVec.eq_of_toNat_eq (by rw [hk, BitVec.toNat_ofNat, Nat.mod_eq_of_lt hb])
  simp only [captured, hx, hbase, if_true, ha, BitVec.toNat_ofNat, Nat.mod_eq_of_lt hb, Nat.add_sub_cancel_left]

theorem captured_of_other {x : Option Capture} {b : Nat} (a : Half) (hb : b < 65536) (h : ∀ k, x = some k → k.base.toNat ≠ b) :
    captured x (BitVec.ofNat 16 b) a = none := by
  cases x with
  | none => rfl
  | some k =>
    refine if_neg fun hk => h k rfl ?_
    rw [hk, BitVec.toNat_ofNat, Nat.mod_eq_of_lt hb]

section
variable {s : State} {t : Stream} {r : Region} {a : Half} {o : List Byte}

theorem State.readWithin_plain (h : captureItem r a = none) :
    (s.streaming t o).readWithin t r a = s.streaming t (o ++ [s.regionByte r (a.toNat - r.base)]) := by
  simp only [State.readWithin, h, State.streaming_shiftOut, State.streaming_regionByte]

theorem State.readWithin_first {n : Nat} (h : captureItem r a = some (a, n)) :
    (s.streaming t o).readWithin t r a =
      s.streaming { t with capture := some { base := a, bytes := s.itemBytes r a n } }
        (o ++ [s.regionByte r (a.toNat - r.base)]) := by
  simp only [State.readWithin, h, if_true]
  rfl

theorem State.readWithin_later {n : Nat} {b : Half} (h : captureItem r a = some (b, n)) (hne : a ≠ b) :
    (s.streaming t o).readWithin t r a =
      s.streaming t (o ++ [(captured t.capture b a).getD (s.regionByte r (a.toNat - r.base))]) := by
  simp only [State.readWithin, h, hne, if_false, State.streaming_shiftOut, State.streaming_regionByte]

/-! ### A read byte outside its stream's region (R161) -/

theorem State.readStream_boundary (he : t.ended = false) (hr : t.region = some r) (hc : r.contains a = false) :
    s.readStream t a = ((s.setTxn (.data t.stop)).noteRefusal .boundary a).shiftOut 0 := by
  simp only [State.readStream, he, hr, hc, Bool.false_eq_true, if_false]

theorem State.readStream_dropped (h : t.ended = true ∨ t.region = none) : s.readStream t a = s.shiftOut 0 := by
  rw [State.readStream]
  split
  · rfl
  · next he => simp only [h.resolve_left he]

end

/-- Settles O45: what a read byte returns, and what it captures. -/
theorem readsCapture : Obligations.ReadsCapture := by
  intro s
  refine ⟨fun r a t o h => ?within, fun t o htxn hw ho => ⟨fun r hr he hout => ?boundary, fun hd => ?dropped⟩,
    fun a htxn hr => ?unmapped⟩
  case within =>
    intro now read
    have hexec {u : State} (hu : (s.streaming { t with next := a + 1 } o).readWithin { t with next := a + 1 } r a = u) :
        exec (.readCapture a) s = .next u := congrArg Host.Outcome.next ((State.readByte_within h).trans hu)
    obtain ⟨-, -, -, hc⟩ := State.carries_of_readsAt h
    refine ⟨fun hn => hexec (State.readWithin_plain (captureItem_eq_none hc hn)), fun n hn => ?_, fun b n i hb hi hin ha => ?_⟩
    · have hitem := captureItem_eq_some hn (Nat.le_refl _) (Nat.lt_add_of_pos_right (pos_of_isCaptured hn))
      rw [BitVec.ofNat_toNat, BitVec.setWidth_eq] at hitem
      exact hexec (State.readWithin_first hitem)
    · have hlt := lt_of_isCaptured hb
      have hne : a ≠ BitVec.ofNat 16 b := fun he => by
        rw [he, BitVec.toNat_ofNat, Nat.mod_eq_of_lt hlt] at ha
        omega
      have hlater := State.readWithin_later (s := s) (o := o) (t := { t with next := a + 1 })
        (captureItem_eq_some hb (by omega) (by omega)) hne
      refine ⟨fun k x hk hkb hx => hexec (hlater.trans ?_), fun hk => hexec (hlater.trans ?_)⟩
      · rw [captured_of_base hk hlt hkb ha, hx]
        rfl
      · rw [captured_of_other a hlt hk]
        rfl
  case boundary =>
    have hcar := State.carries_open htxn ho
    rw [hw] at hcar
    refine congrArg Host.Outcome.next ((State.readByte_carried hcar).trans ?_)
    exact State.readStream_boundary he hr ((r.not_contains_iff _).mpr hout)
  case dropped =>
    have hcar := State.carries_open htxn ho
    rw [hw] at hcar
    exact congrArg Host.Outcome.next ((State.readByte_carried hcar).trans (State.readStream_dropped hd))
  case unmapped =>
    refine congrArg Host.Outcome.next ((State.readByte_carried (State.carries_first htxn false a)).trans ?_)
    rw [State.readStream_dropped (.inr hr), Stream.start, hr]
    rfl

end Sys2Proof.Machine
end

section
/-! PROOF. Written bytes (R161 to R163, R165, R166). -/

namespace Sys2Proof.Machine

/-! ### What a byte of a region is for a write -/

theorem writeItem_windows (w : WindowId) {i : Nat} (hi : i < 32) : writeItem .windows (32 * w.val + i) = windowItem w i := by
  have hw : Fin.ofNat 8 ((32 * w.val + i) / 32) = w := Fin.ext (by simp only [Fin.ofNat]; omega)
  rw [writeItem, hw, show (32 * w.val + i) % 32 = i by omega]

theorem windowItem_field (w : WindowId) (f : WinField) : windowItem w (fieldOffset f + fieldBytes f - 1) = .field w f := by
  cases f <;> rfl

theorem windowItem_eq_readOnly_iff (w : WindowId) {i : Nat} (hi : i < 32) : windowItem w i = .readOnly ↔ 0x15 ≤ i := by
  revert i w
  decide

theorem windowItem_eq_stage_iff (w : WindowId) {i : Nat} (hi : i < 32) :
    windowItem w i = .stage ↔ i ∈ [0x00, 0x01, 0x02, 0x04, 0x05, 0x06, 0x08, 0x09, 0x13] := by
  revert i w
  decide

theorem writeItem_entry (e : EntryId) : writeItem .entries (4 * e.val + 3) = .entry e := by
  rw [writeItem, if_pos (by omega), ofNat_entry e (by omega)]

theorem writeItem_setting {k : Setting} {a : Half}
    (h : (k, a) ∈
      [(Setting.prescale, 0x0010), (.gatherIdle, 0x0011), (.mirrorStall, 0x0012), (.memTimeout, 0x0013), (.enables, 0x0014)]) :
    Region.contains .global a = true ∧ writeItem .global (a.toNat - 0x0010) = .setting k ∧ settingAddr k = a := by
  simp only [List.mem_cons, Prod.mk.injEq, List.not_mem_nil, or_false] at h
  obtain ⟨rfl, rfl⟩ | ⟨rfl, rfl⟩ | ⟨rfl, rfl⟩ | ⟨rfl, rfl⟩ | ⟨rfl, rfl⟩ := h <;> decide

theorem writeItem_eq_readOnly_iff {r : Region} {off : Nat} (h : off < r.size) :
    writeItem r off = .readOnly ↔
      r ∈ [.id, .actionStatus, .status, .counts, .faultHead, .resultHead] ∨ r = .global ∧ 5 ≤ off ∨ r = .action ∧ 2 ≤ off ∨
        r = .windows ∧ 0x15 ≤ off % 32 := by
  cases r
  case global => revert off; decide
  case action => revert off; decide
  case windows => simp [writeItem, windowItem_eq_readOnly_iff _ (Nat.mod_lt off (by decide : 32 > 0))]
  case entries => simp only [writeItem]; split <;> simp
  all_goals simp [writeItem]

theorem writeItem_eq_stage_iff {r : Region} {off : Nat} (h : off < r.size) :
    writeItem r off = .stage ↔
      r = .action ∧ off = 0 ∨ r = .entries ∧ off % 4 ≠ 3 ∨
        r = .windows ∧ off % 32 ∈ [0x00, 0x01, 0x02, 0x04, 0x05, 0x06, 0x08, 0x09, 0x13] := by
  cases r
  case global => revert off; decide
  case action => revert off; decide
  case windows => simp [writeItem, windowItem_eq_stage_iff _ (Nat.mod_lt off (by decide : 32 > 0))]
  case entries => by_cases hoff : off % 4 = 3 <;> simp [writeItem, hoff]
  all_goals simp [writeItem]

/-! ### Each command that carries a byte -/

/-- A command that carries a byte is the write of that byte (log entry 13). -/
theorem exec_carriesByte {c : Instr} {a : Half} {v : Byte} (h : carriesByte c a v) (s : State) :
    exec c s = .next (s.writeByte a v).settle := by
  obtain rfl | ⟨k, rfl, hk⟩ | ⟨w, f, rfl, rfl⟩ | ⟨e, rfl, rfl⟩ := h
  · rfl
  · rw [← (writeItem_setting hk).2.2]
    rfl
  · rfl
  · rw [show 0x0403 + 4 * e.val = entryAddr e + 3 by rw [entryAddr]; omega]
    rfl

/-! ### What a written byte does -/

section
variable {s : State} {r : Region} {a : Half} {v : Byte} {t : Stream} {o : List Byte}

theorem State.writeWithin_readOnly (h : writeItem r (a.toNat - r.base) = .readOnly) :
    s.writeWithin t r a v = s.noteRefusal .readOnly a := by
  rw [State.writeWithin, h]

theorem State.writeWithin_stage (h : writeItem r (a.toNat - r.base) = .stage) :
    s.writeWithin t r a v = s.setStaged t (t.staged ++ [(a, v)]) := by
  rw [State.writeWithin, h]

theorem State.writeWithin_field {w : WindowId} {f : WinField} (h : writeItem r (a.toNat - r.base) = .field w f) :
    s.writeWithin t r a v = (s.setStaged t []).commitField t.staged w f v := by
  rw [State.writeWithin, h]

theorem State.writeWithin_entry {e : EntryId} (h : writeItem r (a.toNat - r.base) = .entry e) :
    s.writeWithin t r a v = (s.setStaged t []).commitEntry t.staged e v := by
  rw [State.writeWithin, h]

theorem State.writeWithin_setting {k : Setting} (h : writeItem r (a.toNat - r.base) = .setting k) :
    s.writeWithin t r a v = (s.setStaged t []).commitSetting k v := by
  rw [State.writeWithin, h]

theorem State.writeWithin_action (h : writeItem r (a.toNat - r.base) = .action) :
    s.writeWithin t r a v = (s.setStaged t []).commitAction (stagedCode t.staged) v := by
  rw [State.writeWithin, h]

theorem State.writeStream_ended (he : t.ended = true) : s.writeStream t a v = s := by
  rw [State.writeStream, if_pos he]

theorem State.writeStream_unmapped (he : t.ended = false) (hr : t.region = none) :
    s.writeStream t a v = (s.setTxn (.data t.stop)).noteRefusal .unmapped a := by
  simp only [State.writeStream, he, hr, Bool.false_eq_true, if_false]

theorem State.writeStream_boundary (he : t.ended = false) (hr : t.region = some r) (hc : r.contains a = false) :
    s.writeStream t a v = (s.setTxn (.data t.stop)).noteRefusal .boundary a := by
  simp only [State.writeStream, he, hr, hc, Bool.false_eq_true, if_false]

end

theorem Settings.put_spec (g : Settings) (k : Setting) (v : Byte) :
    (g.put k v).prescale = (if k = .prescale then v else g.prescale) ∧
      (g.put k v).gatherIdle = (if k = .gatherIdle then v else g.gatherIdle) ∧
      (g.put k v).mirrorStall = (if k = .mirrorStall then v else g.mirrorStall) ∧
      (g.put k v).memTimeout = (if k = .memTimeout then v else g.memTimeout) ∧
      (g.put k v).enables = (if k = .enables then v.extractLsb' 0 4 else g.enables) := by
  have hv : v.setWidth 4 = v.extractLsb' 0 4 := BitVec.setWidth_eq_extractLsb' (by decide)
  cases k <;> simp [Settings.put, hv]

/-- Settles O44: what each written data byte does. -/
theorem dataBytesWritten : Obligations.DataBytesWritten := by
  refine ⟨fun s v => ⟨fun k a t o hk h => ?setting, fun a r t o hc h => ⟨fun hi => ?stage, fun hi => ?readOnly⟩,
    fun a htxn hr => ?unmapped, fun c t o hcar htxn hw ho => ⟨fun r he hr hout => ?boundary, fun he => ?dropped⟩⟩, fun r off hoff =>
    ⟨writeItem_eq_readOnly_iff hoff, writeItem_eq_stage_iff hoff⟩⟩
  case setting =>
    obtain ⟨hc, hi, ha⟩ := writeItem_setting hk
    have hbyte := (State.writeByte_within (v := v) h hc).trans (State.writeWithin_setting hi)
    rw [← ha] at hbyte ⊢
    exact ⟨_, congrArg (fun x : State => Host.Outcome.next x.settle) hbyte, s.port.settings.put_spec k v⟩
  case stage =>
    exact congrArg (fun x : State => Host.Outcome.next x.settle) ((State.writeByte_within h hc).trans (State.writeWithin_stage hi))
  case readOnly =>
    exact congrArg (fun x : State => Host.Outcome.next x.settle)
      ((State.writeByte_within h hc).trans (State.writeWithin_readOnly hi))
  case unmapped =>
    refine congrArg (fun x : State => Host.Outcome.next x.settle)
      ((State.writeByte_carried (State.carries_first htxn true a)).trans ((State.writeStream_unmapped rfl hr).trans ?_))
    rw [Stream.start, hr]
    rfl
  all_goals
    have hopen := State.carries_open htxn ho
    rw [hw] at hopen
    rw [exec_carriesByte hcar]
  case boundary =>
    exact congrArg (fun x : State => Host.Outcome.next x.settle) ((State.writeByte_carried hopen).trans
      (State.writeStream_boundary he hr ((r.not_contains_iff _).mpr hout)))
  case dropped =>
    exact congrArg (fun x : State => Host.Outcome.next x.settle)
      ((State.writeByte_carried hopen).trans (State.writeStream_ended he))

end Sys2Proof.Machine
end

section
/-! PROOF. The commit of a window-record field (R19, R163, Table 11-7). -/

namespace Sys2Proof.Machine

/-! ### The number that bytes make -/

theorem numberOf_cons (b : Byte) (bs : List Byte) : numberOf (b :: bs) = b.toNat + 256 * numberOf bs := rfl

theorem numberOf_lt (bs : List Byte) : numberOf bs < 256 ^ bs.length := by
  induction bs with
  | nil => decide
  | cons b bs ih =>
    have := b.isLt
    rw [numberOf_cons, List.length_cons, Nat.pow_succ]
    omega

theorem byte_of_numberOf {bs : List Byte} {i : Nat} (hi : i < bs.length) : BitVec.ofNat 8 (numberOf bs / 256 ^ i) = bs[i] := by
  induction bs generalizing i with
  | nil => cases hi
  | cons b bs ih =>
    have hb := b.isLt
    rw [numberOf_cons]
    cases i with
    | zero =>
      apply BitVec.eq_of_toNat_eq
      rw [Nat.pow_zero, Nat.div_one, BitVec.toNat_ofNat, List.getElem_cons_zero]
      omega
    | succ i =>
      rw [Nat.pow_succ', ← Nat.div_div_eq_div_mul, Nat.add_mul_div_left _ _ (by decide), Nat.div_eq_of_lt hb, Nat.zero_add,
        List.getElem_cons_succ, ih]

/-! ### Fields of a window record -/

theorem formField_lt (x : Window) (st : Staged) (base : Nat) (f : WinField) (v : Byte) :
    formField x st base f v < 256 ^ fieldBytes f := by
  refine lt_of_lt_of_eq (numberOf_lt _) ?_
  rw [List.length_mapIdx, bytesOf, List.length_map, List.length_range]

theorem byte_of_formField (x : Window) (st : Staged) (base : Nat) (f : WinField) (v : Byte) {i : Nat} (hi : i < fieldBytes f) :
    BitVec.ofNat 8 (formField x st base f v / 256 ^ i) =
      if i + 1 = fieldBytes f then v else (stagedAt st (base + i)).getD (BitVec.ofNat 8 (x.getField f / 256 ^ i)) := by
  rw [formField, byte_of_numberOf (by simpa [bytesOf] using hi), List.getElem_mapIdx]
  simp only [bytesOf, List.getElem_map, List.getElem_range]

theorem Window.getField_putField (x : Window) (f g : WinField) (n : Nat) :
    (x.putField f n).getField g = if g = f then n % 256 ^ fieldBytes f else x.getField g := by
  cases f <;> cases g <;> rfl

/-- The writable fields lie in the first 15h bytes of a record (Table 11-7). -/
theorem fieldOffset_fieldBytes (f : WinField) : fieldOffset f + fieldBytes f ≤ 0x15 ∧ 0 < fieldBytes f := by
  cases f <;> decide

theorem commitAddr_toNat (w : WindowId) (f : WinField) :
    (commitAddr w f).toNat = 0x0100 + (32 * w.val + (fieldOffset f + fieldBytes f - 1)) := by
  obtain ⟨hoff, hpos⟩ := fieldOffset_fieldBytes f
  rw [commitAddr, BitVec.toNat_ofNat, fieldAddr]
  omega

/-- The commit byte of a field, as a byte of the WINDOWS region. -/
theorem writeItem_commitAddr (w : WindowId) (f : WinField) :
    Region.contains .windows (commitAddr w f) = true ∧
      writeItem .windows ((commitAddr w f).toNat - Region.base .windows) = .field w f := by
  have haddr := commitAddr_toNat w f
  obtain ⟨hoff, hpos⟩ := fieldOffset_fieldBytes f
  constructor
  · rw [Region.contains_iff, haddr]
    simp only [Region.base, Region.size]
    omega
  · rw [haddr, Region.base, Nat.add_sub_cancel_left, writeItem_windows w (by omega), windowItem_field]

/-! ### The field rule (R19) -/

section
variable {s : State} {st : Staged} {w : WindowId} {f : WinField} {v : Byte}

theorem State.commitField_taken
    (h : f ≠ .quiet ∧ (s.win w).state = .off ∨ f = .quiet ∧ formField (s.win w) st (fieldAddr w f) f v ≤ 4095) :
    s.commitField st w f v = s.setWin w ((s.win w).putField f (formField (s.win w) st (fieldAddr w f) f v)) := by
  obtain ⟨hf, hoff⟩ | ⟨rfl, hn⟩ := h
  · simp only [State.commitField, hf, hoff, if_false, if_true]
  · simp only [State.commitField, hn, if_true]

theorem State.commitField_refused {x : Reason}
    (h : f ≠ .quiet ∧ (s.win w).state ≠ .off ∧ x = .busy ∨
      f = .quiet ∧ 4095 < formField (s.win w) st (fieldAddr w f) f v ∧ x = .invalid) :
    s.commitField st w f v = s.noteRefusal x (commitAddr w f) := by
  obtain ⟨hf, hoff, rfl⟩ | ⟨rfl, hn, rfl⟩ := h
  · simp only [State.commitField, hf, hoff, if_false]
  · simp only [State.commitField, Nat.not_le.mpr hn, if_true, if_false]

end

/-- Settles O42: what the commit byte of a window-record field does. -/
theorem windowFieldCommits : Obligations.WindowFieldCommits := by
  refine ⟨fun s w f v t o h => ?commit, fun x st w f v => ⟨formField_lt .., fun i hi => byte_of_formField x st _ f v hi⟩,
    fun x f n hn => ⟨?same, fun g hg => ?other, ?rest⟩, fun w f => ⟨rfl, rfl⟩, rfl⟩
  case commit =>
    intro n port out cmd
    obtain ⟨hc, hi⟩ := writeItem_commitAddr w f
    have hbyte := (State.writeByte_within (v := v) h hc).trans (State.writeWithin_field hi)
    have hexec {u : State} (hu : _ = u) : cmd = .next u.settle :=
      congrArg (fun x : State => Host.Outcome.next x.settle) (hbyte.trans hu)
    exact ⟨fun htaken => hexec (State.commitField_taken htaken), fun x hrefused => hexec (State.commitField_refused hrefused)⟩
  case same => rw [x.getField_putField, if_pos rfl, Nat.mod_eq_of_lt hn]
  case other => rw [x.getField_putField, if_neg hg]
  case rest => cases f <;> exact ⟨rfl, rfl, rfl, rfl, rfl, rfl⟩

end Sys2Proof.Machine
end

section
/-! PROOF. The commit of an entry (R92 to R95). -/

namespace Sys2Proof.Machine

/-! ### The colour request (R92) -/

section
variable {x : Entry} {st : Staged} {base : Nat}

theorem colourRequest_none (h : ¬(stagedAt st base ≠ none ∨ stagedAt st (base + 1) ≠ none ∨ stagedAt st (base + 2) ≠ none)) :
    colourRequest x st base = none := by
  simp only [not_or, not_not] at h
  obtain ⟨hr, hg, hb⟩ := h
  rw [colourRequest, hr, hg, hb]

theorem colourRequest_some (h : stagedAt st base ≠ none ∨ stagedAt st (base + 1) ≠ none ∨ stagedAt st (base + 2) ≠ none) :
    colourRequest x st base = some
      { r := (stagedAt st base).getD x.colour.r, g := (stagedAt st (base + 1)).getD x.colour.g
        b := (stagedAt st (base + 2)).getD x.colour.b } := by
  rw [colourRequest]
  split
  · next hr hg hb => simp [hr, hg, hb] at h
  · rfl

end

/-! ### The announcement of a written colour (R95) -/

section
variable {s : State} {e : EntryId}

theorem State.announceWrite_table (s : State) (e : EntryId) :
    (∀ f, (s.announceWrite e).entry f = s.entry f) ∧ (s.announceWrite e).colour.suspect = s.colour.suspect := by
  rw [State.announceWrite]
  (repeat' split) <;> exact ⟨fun _ => rfl, rfl⟩

theorem State.announceWrite_detached (h : s.mirror.link = .detached) : s.announceWrite e = s := by
  simp [State.announceWrite, h]

variable (hl : s.mirror.link ≠ .detached)
include hl

theorem State.announceWrite_room (hroom : s.mirror.level < 16) (hheld : s.colour.held = []) : s.announceWrite e = s.announce e := by
  simp [State.announceWrite, hl, s.mirror.hasRoom_iff.mpr hroom, hheld]

theorem State.announceWrite_held (h : 16 ≤ s.mirror.level ∨ s.colour.held ≠ []) :
    (s.announceWrite e).mirror = s.mirror ∧
      (s.announceWrite e).colour.held = if e ∈ s.colour.held then s.colour.held else s.colour.held ++ [e] := by
  have hwait : ¬(s.mirror.hasRoom && s.colour.held.isEmpty) = true := by
    rw [Bool.and_eq_true, Mirror.hasRoom_iff, List.isEmpty_iff]
    rintro ⟨hroom, hheld⟩
    exact h.elim (Nat.not_le.mpr hroom) (· hheld)
  rw [State.announceWrite, if_neg (by simp [hl]), if_neg hwait]
  by_cases he : e ∈ s.colour.held <;> simp [he]

end

/-! ### The flags request (R94) and the whole commit -/

section
variable {s : State} {st : Staged} {e : EntryId} {v : Byte} {c : Colour}

theorem State.requestFlags_entry (s : State) (e : EntryId) (v : Byte) (f : EntryId) :
    (s.requestFlags e v).entry f = if e = f then { s.entry e with pinned := v.getLsbD 0 } else s.entry f := by
  simp only [State.requestFlags, State.entry, ColourTable.entry_setEntry]

/-- The colour table with an entry's colour replaced. -/
def State.recoloured (s : State) (e : EntryId) (c : Colour) : State :=
  { s with colour := s.colour.setEntry e { s.entry e with colour := c } }

theorem State.recoloured_entry (s : State) (e : EntryId) (c : Colour) (f : EntryId) :
    (s.recoloured e c).entry f = if e = f then { s.entry e with colour := c } else s.entry f := by
  simp only [State.recoloured, State.entry, ColourTable.entry_setEntry]

theorem State.requestColour_live (hp : (s.entry e).pinned = false) (hn : 0 < (s.entry e).count) :
    s.requestColour e c = s.noteRefusal .inUse (BitVec.ofNat 16 (entryAddr e + 3)) := by
  rw [State.requestColour, if_pos (by simp [Entry.isLive, hp, Nat.ne_of_gt hn])]

theorem State.requestColour_taken (h : (s.entry e).pinned = true ∨ (s.entry e).count = 0) :
    s.requestColour e c = (s.recoloured e c).announceWrite e := by
  rw [State.requestColour, if_neg (by rcases h with h | h <;> simp [Entry.isLive, h])]
  rfl

theorem State.commitEntry_none (h : colourRequest (s.entry e) st (entryAddr e) = none) :
    s.commitEntry st e v = s.requestFlags e v := by
  rw [State.commitEntry, h]

theorem State.commitEntry_some (h : colourRequest (s.entry e) st (entryAddr e) = some c) :
    s.commitEntry st e v = (s.requestColour e c).requestFlags e v := by
  rw [State.commitEntry, h]

theorem Entry.live_or (x : Entry) : x.pinned = false ∧ 0 < x.count ∨ x.pinned = true ∨ x.count = 0 := by
  cases x.pinned <;> simp [Nat.eq_zero_or_pos, or_comm]

/-- A colour request changes no other entry, and of the port the refusal record alone. -/
theorem State.requestColour_kept (s : State) (e : EntryId) (c : Colour) :
    (∀ f, f ≠ e → (s.requestColour e c).entry f = s.entry f) ∧ (s.requestColour e c).colour.suspect = s.colour.suspect ∧
      (s.requestColour e c).port = { s.port with refusal := (s.requestColour e c).port.refusal } := by
  obtain ⟨hp, hn⟩ | htaken := (s.entry e).live_or
  · rw [State.requestColour_live hp hn]
    exact ⟨fun _ _ => rfl, rfl, rfl⟩
  · rw [State.requestColour_taken htaken]
    obtain ⟨hentry, hsuspect⟩ := (s.recoloured e c).announceWrite_table e
    refine ⟨fun f hf => ?_, hsuspect, by simp [State.recoloured]⟩
    rw [hentry, State.recoloured_entry, if_neg hf.symm]

theorem State.commitEntry_kept (s : State) (st : Staged) (e : EntryId) (v : Byte) :
    (∀ f, f ≠ e → (s.commitEntry st e v).entry f = s.entry f) ∧ (s.commitEntry st e v).colour.suspect = s.colour.suspect ∧
      (s.commitEntry st e v).port = { s.port with refusal := (s.commitEntry st e v).port.refusal } := by
  cases hc : colourRequest (s.entry e) st (entryAddr e) with
  | none =>
    rw [State.commitEntry_none hc]
    exact ⟨fun f hf => by rw [State.requestFlags_entry, if_neg hf.symm], rfl, rfl⟩
  | some c =>
    rw [State.commitEntry_some hc]
    obtain ⟨hentry, hsuspect, hport⟩ := s.requestColour_kept e c
    refine ⟨fun f hf => ?_, hsuspect, hport⟩
    rw [State.requestFlags_entry, if_neg hf.symm, hentry f hf]

end

/-- The flags byte of an entry, as a byte of the ENTRIES region. -/
theorem writeItem_entryFlags (e : EntryId) :
    Region.contains .entries (BitVec.ofNat 16 (0x0403 + 4 * e.val)) = true ∧
      writeItem .entries ((BitVec.ofNat 16 (0x0403 + 4 * e.val)).toNat - Region.base .entries) = .entry e := by
  have haddr : (BitVec.ofNat 16 (0x0403 + 4 * e.val)).toNat = 0x0400 + (4 * e.val + 3) := by
    rw [BitVec.toNat_ofNat]
    omega
  constructor
  · rw [Region.contains_iff, haddr]
    simp only [Region.base, Region.size]
    omega
  · rw [haddr, Region.base, Nat.add_sub_cancel_left, writeItem_entry]

/-- Settles O43: what the flags byte of an entry does. -/
theorem entryCommits : Obligations.EntryCommits := by
  intro s e v t o h staged c asked
  let q := s.streaming { t with next := BitVec.ofNat 16 (0x0403 + 4 * e.val) + 1, staged := [] } (o ++ [0])
  obtain ⟨hc, hi⟩ := writeItem_entryFlags e
  have hbyte : s.writeByte _ v = q.commitEntry t.staged e v := (State.writeByte_within h hc).trans (State.writeWithin_entry hi)
  have hexec : exec (.entryCommit e v) s = .next (q.commitEntry t.staged e v).settle := by
    rw [← hbyte]
    exact exec_carriesByte (.inr (.inr (.inr ⟨e, rfl, rfl⟩))) s
  have hnext : BitVec.ofNat 16 (0x0403 + 4 * e.val) + 1 = BitVec.ofNat 16 (0x0404 + 4 * e.val) := by
    bv_omega
  have hasked (ha : asked) : colourRequest (q.entry e) t.staged (entryAddr e) = some c := colourRequest_some ha
  obtain ⟨hentries, hsuspect, hport⟩ := q.commitEntry_kept t.staged e v
  refine ⟨_, hexec, hentries, ?_, ?_, hsuspect, ?_, ?_, ?_, ?_, ?_, ?_, ?_, ?_, ?_, fun ha => ?none, fun ha hp hn => ?live,
    fun ha hfree => ?taken⟩
  case none =>
    rw [State.commitEntry_none (s := q) (colourRequest_none ha)]
    exact ⟨by rw [State.requestFlags_entry, if_pos rfl]; rfl, rfl, rfl, rfl⟩
  case live =>
    rw [State.commitEntry_some (hasked ha), State.requestColour_live (s := q) hp hn]
    refine ⟨by rw [State.requestFlags_entry, if_pos rfl]; rfl, ?_, rfl, rfl⟩
    rw [show 0x0403 + 4 * e.val = entryAddr e + 3 by rw [entryAddr]; omega]
    rfl
  case taken =>
    rw [State.commitEntry_some (hasked ha), State.requestColour_taken (s := q) hfree]
    have hcolour : (q.recoloured e c).entry e = { s.entry e with colour := c } := by
      rw [State.recoloured_entry, if_pos rfl]
      rfl
    refine ⟨?_, ?_, fun hd => ?_, fun hl hroom hheld => ?_, fun hl hwait => ?_⟩
    · rw [State.requestFlags_entry, if_pos rfl, (State.announceWrite_table _ e).1, hcolour]
    · simp only [State.requestFlags_fields, State.announceWrite_fields]
      rfl
    · rw [State.announceWrite_detached (s := q.recoloured e c) hd]
      exact ⟨rfl, rfl⟩
    · rw [State.announceWrite_room (s := q.recoloured e c) hl hroom hheld]
      refine ⟨hheld, ?_⟩
      change (q.recoloured e c).mirror.enqueue .entry e ((q.recoloured e c).entry e).colour = _
      rw [hcolour]
      rfl
    · exact State.announceWrite_held (s := q.recoloured e c) hl hwait
  · rw [hport, ← hnext]
    rfl
  · simp [q, State.streaming]
  · rw [hport]
    rfl
  · rw [hport]
    rfl
  all_goals simp [q, State.streaming]

end Sys2Proof.Machine
end

section
/-! PROOF. The operand byte of an action, in its action row and as a written byte (R167, R168; log entry 12). -/

namespace Sys2Proof.Machine

/-! ### The rule of an action does not read the open transaction -/

/-- The verdict, with another data stream open in an accepted action's state. -/
def Verdict.streaming (t : Stream) (o : List Byte) : Verdict → Verdict
  | .accept u => .accept (u.streaming t o)
  | .refuse r => .refuse r

section
variable (s : State) (t : Stream) (o : List Byte)

theorem State.startFlush_streaming (l : LineId) (c : FlushCause) :
    (s.streaming t o).startFlush l c = (s.startFlush l c).streaming t o := by
  dsimp only [State.startFlush]
  rw [apply_ite (State.streaming · t o)]
  rfl

theorem State.claim_streaming (p : Line → Bool) (c : FlushCause) : (s.streaming t o).claim p c = (s.claim p c).streaming t o := by
  refine List.foldl_hom (State.streaming · t o) fun u l => ?_
  rw [apply_ite (State.streaming · t o), ← State.startFlush_streaming]
  rfl

theorem State.scanEnd_streaming (st : ResultStatus) (crc : Word32) :
    (s.streaming t o).scanEnd st crc = (s.scanEnd st crc).streaming t o := by
  dsimp only [State.scanEnd]
  rw [apply_ite (State.streaming · t o)]
  rfl

theorem State.scanAbort_streaming (w : WindowId) : (s.streaming t o).scanAbort w = (s.scanAbort w).streaming t o := by
  rw [State.scanAbort, State.scanAbort, apply_ite (State.streaming · t o), ← State.scanEnd_streaming]
  rfl

theorem State.engineFinish_streaming : (s.streaming t o).engineFinish = s.engineFinish.streaming t o := by
  have he' : (s.streaming t o).engine = s.engine := rfl
  dsimp only [State.engineFinish]
  rw [apply_ite (State.streaming · t o), he']
  refine if_congr Iff.rfl rfl ?_
  cases s.engine with
  | idle => rfl
  | filling f =>
    cases hf : f.failed with
    | some a => simp only [hf]; rfl
    | none =>
      simp only [hf, apply_ite (State.streaming · t o)]
      rfl
  | releasing r =>
    cases hr : r.failed with
    | some a => simp only [hr]; rfl
    | none =>
      simp only [hr, apply_ite (State.streaming · t o)]
      rfl

theorem State.disarmed_streaming (w : WindowId) : (s.streaming t o).disarmed w = (s.disarmed w).streaming t o :=
  State.scanAbort_streaming (s.setWin w { s.win w with pending := false, timer := .idle }) t o w

theorem State.drain_streaming (w : WindowId) : (s.streaming t o).drain w = (s.drain w).streaming t o :=
  State.claim_streaming (s.setWindowState w .draining) t o _ _

theorem State.abortFill_streaming (w : WindowId) : (s.streaming t o).abortFill w = (s.abortFill w).streaming t o := by
  have he' : (s.streaming t o).engine = s.engine := rfl
  rw [State.abortFill, State.abortFill, he']
  cases he : s.engine with
  | filling f =>
    dsimp only
    rw [apply_ite (State.streaming · t o), ← State.engineFinish_streaming]
    rfl
  | idle => rfl
  | releasing r => rfl

theorem State.judgeArm_streaming (w : WindowId) : (s.streaming t o).judgeArm w = (s.judgeArm w).streaming t o := by
  dsimp only [State.judgeArm]
  simp only [apply_ite (Verdict.streaming t o)]
  rfl

theorem State.judgeDisarm_streaming (w : WindowId) : (s.streaming t o).judgeDisarm w = (s.judgeDisarm w).streaming t o := by
  have hw : (s.streaming t o).win w = s.win w := rfl
  rw [State.judgeDisarm, State.judgeDisarm, hw]
  simp only [State.disarmed_streaming, State.drain_streaming, State.abortFill_streaming]
  cases (s.win w).state with
  | armed =>
    simp only [apply_ite (Verdict.streaming t o)]
    rfl
  | off => rfl
  | arming => rfl
  | draining => rfl

theorem State.judgeScan_streaming (w : WindowId) : (s.streaming t o).judgeScan w = (s.judgeScan w).streaming t o := by
  dsimp only [State.judgeScan]
  simp only [apply_ite (Verdict.streaming t o)]
  rfl

theorem State.judgeFlushAll_streaming : (s.streaming t o).judgeFlushAll = s.judgeFlushAll.streaming t o := by
  rw [State.judgeFlushAll, State.claim_streaming]
  rfl

theorem State.judgeAttach_streaming : (s.streaming t o).judgeAttach = s.judgeAttach.streaming t o := by
  rw [State.judgeAttach, State.judgeAttach, apply_ite (Verdict.streaming t o)]
  rfl

theorem State.judgeDetach_streaming : (s.streaming t o).judgeDetach = s.judgeDetach.streaming t o := by
  rw [State.judgeDetach, State.judgeDetach, apply_ite (Verdict.streaming t o)]
  rfl

theorem State.judgeRecount_streaming : (s.streaming t o).judgeRecount = s.judgeRecount.streaming t o := by
  rw [State.judgeRecount, State.judgeRecount, apply_ite (Verdict.streaming t o)]
  rfl

/-- The rule of every action answers alike whatever data stream is open. -/
theorem State.ownRule_streaming (code v : Byte) : (s.streaming t o).ownRule code v = (s.ownRule code v).streaming t o := by
  rw [State.ownRule, State.ownRule]
  split
  · exact s.judgeArm_streaming t o _
  · exact s.judgeDisarm_streaming t o _
  · exact s.judgeScan_streaming t o _
  · exact s.judgeFlushAll_streaming t o
  · exact s.judgeAttach_streaming t o
  · exact s.judgeDetach_streaming t o
  · exact s.judgeRecount_streaming t o
  · rfl
  · rfl
  · rfl

theorem State.judge_streaming (code v : Byte) : (s.streaming t o).judge code v = (s.judge code v).streaming t o := by
  rw [State.judge, State.judge, State.ownRule_streaming]
  simp only [apply_ite (Verdict.streaming t o)]
  rfl

/-- An action is committed alike whatever data stream is open. -/
theorem State.commitAction_streaming (code v : Byte) :
    (s.streaming t o).commitAction code v = (s.commitAction code v).streaming t o := by
  rw [State.commitAction, State.commitAction, State.judge_streaming]
  cases s.judge code v <;> rfl

end

end Sys2Proof.Machine
end

section
/-! PROOF. What refuses an action, and the operand byte that is written (R167, R168; log entry 12). -/

namespace Sys2Proof.Machine

/-! ### The verdicts that no rule of its own makes (R167) -/

section
variable {s : State} {code v : Byte}

theorem State.judge_busy (h : s.port.action.running ≠ none) : s.judge code v = .refuse .busy := by
  rw [State.judge, if_pos (Option.isSome_iff_ne_none.mpr h)]

variable (h : s.port.action.running = none)
include h

theorem State.judge_unknown (hc : code = 0 ∨ 10 < code.toNat) : s.judge code v = .refuse .unknown := by
  rw [State.judge, if_neg (by simp [h]), if_pos hc]

theorem State.judge_invalid (h0 : 0 < code.toNat) (h3 : code.toNat ≤ 3) (hv : 7 < v.toNat) : s.judge code v = .refuse .invalid := by
  have hcode : ¬(code = 0 ∨ 10 < code.toNat) := by
    rintro (rfl | h10)
    · exact absurd h0 (by decide)
    · omega
  rw [State.judge, if_neg (by simp [h]), if_neg hcode, if_pos ⟨h3, hv⟩]

end

theorem State.commitAction_refused {s : State} {code v : Byte} {x : Reason} (h : s.judge code v = .refuse x) :
    s.commitAction code v = s.noteAction .refused (some x) code := by
  rw [State.commitAction, h]

theorem State.actionCommand_open {s : State} {code v : Byte} (hv : s.port.txn ≠ .void) :
    s.actionCommand code v = (s.streaming actionStream actionSdo).commitAction code v := by
  rw [State.actionCommand, if_neg hv]
  rfl

theorem code_of_take_actionRows {v : Byte} {p : Byte × Instr} (hp : p ∈ (actionRows v).take 3) : 0 < p.1.toNat ∧ p.1.toNat ≤ 3 := by
  simp only [actionRows, List.take_succ_cons, List.take_zero, List.mem_cons, List.not_mem_nil, or_false] at hp
  obtain rfl | rfl | rfl := hp <;> simp

/-! ### The written operand byte -/

theorem stagedCode_eq (st : Staged) : stagedCode st = ((st.find? (fun p => p.1 == 0x0020)).map Prod.snd).getD 0 := by
  have hp : (fun p : Half × Byte => p.1.toNat == 0x0020) = fun p => p.1 == 0x0020 := by
    funext p
    rw [Bool.eq_iff_iff, beq_iff_eq, beq_iff_eq]
    exact ⟨fun h => BitVec.eq_of_toNat_eq h, fun h => by rw [h]; rfl⟩
  rw [stagedCode, stagedAt, hp]

section
variable {s : State} {t : Stream} {o : List Byte} {v : Byte} (h : s.writesAt .action 0x0021 t o)
include h

/-- The operand byte commits the code that is staged in its transaction. -/
theorem exec_operand : exec (.registerWrite 0x0021 v) s =
    .next (State.settle ((s.streaming { t with next := 0x0022, staged := [] } (o ++ [0])).commitAction (stagedCode t.staged) v)) :=
  congrArg (fun x : State => Host.Outcome.next x.settle)
    ((State.writeByte_within h (by decide)).trans (State.writeWithin_action (by decide)))

theorem exec_operand_refused {x : Reason}
    (hx : (s.streaming { t with next := 0x0022, staged := [] } (o ++ [0])).judge (stagedCode t.staged) v = .refuse x) :
    exec (.registerWrite 0x0021 v) s =
      .next (State.settle ((s.streaming { t with next := 0x0022, staged := [] } (o ++ [0])).noteAction .refused (some x)
        (stagedCode t.staged))) := by
  rw [exec_operand h, State.commitAction_refused hx]

theorem actionStream_of_writesAt (hx : t.capture = none) (hs : o = [0, 0, 0, 0]) :
    ({ t with next := 0x0022, staged := [] } : Stream) = actionStream ∧ o ++ [0] = actionSdo := by
  subst hs
  obtain ⟨-, hw, -, hr, he, -⟩ | ⟨-, -, ho, -⟩ := h
  · rw [hw, hr, he, hx]
    exact ⟨rfl, rfl⟩
  · exact absurd ho (by decide)

end

/-- Settles O41: what refuses every action, and what the operand byte does. -/
theorem actionsRefused : Obligations.ActionsRefused := by
  refine ⟨⟨rfl, rfl⟩, fun s v hv => ⟨fun hbusy p hp => ?busy, fun hrun h7 p hp => ?invalid, fun t o h => ?operand⟩⟩
  case busy => rw [exec_actionRow hp, State.actionCommand_judged hv, State.judge_busy (s := s.opened) hbusy, State.answer_refuse]
  case invalid =>
    obtain ⟨h0, h3⟩ := code_of_take_actionRows hp
    rw [exec_actionRow (List.mem_of_mem_take hp), State.actionCommand_judged hv,
      State.judge_invalid (s := s.opened) hrun h0 h3 h7, State.answer_refuse]
  case operand =>
    rw [← stagedCode_eq]
    intro code after refused cmd
    refine ⟨fun hbusy => ?_, fun hrun hc => ?_, fun hrun h0 h3 h7 => ?_, fun p hp hcode => ⟨?_, fun hx ho => ?_⟩⟩
    · exact exec_operand_refused h (State.judge_busy (s := s.streaming _ _) hbusy)
    · exact exec_operand_refused h (State.judge_unknown (s := s.streaming _ _) hrun hc)
    · exact exec_operand_refused h (State.judge_invalid (s := s.streaming _ _) hrun h0 h3 h7)
    · refine ⟨s.actionCommand p.1 v, exec_actionRow hp s, ?_⟩
      rw [State.actionCommand_open hv, hcode]
      refine (exec_operand h).trans ?_
      rw [State.commitAction_streaming, State.commitAction_streaming]
      rfl
    · obtain ⟨ht, hs⟩ := actionStream_of_writesAt h hx ho
      rw [exec_actionRow hp, State.actionCommand_open hv, hcode, ← ht, ← hs]
      exact exec_operand h

end Sys2Proof.Machine
end
